-- ==== Sys2Proof/Word.lean ====
section
/-! DEFINITION. The widths of the machine's values (00_scope.md R9, 20_memory.md R200). -/

namespace Sys2Proof

/-- A byte, 8 bits. -/
abbrev Byte := BitVec 8

/-- A word, 16 bits. -/
abbrev Word := BitVec 16

/-- A linear memory address, 20 bits (20_memory.md R200). -/
abbrev LinAddr := BitVec 20

end Sys2Proof
end

