-- ==== Sys2Proof/Syntax.lean ====
section
/-! DEFINITION. The instructions as syntax: one constructor of `Instr` per mnemonic of spec/opcode_table.json,
and the operand types of 00_scope.md R13 and 30_encoding.md R304 to R309. -/

namespace Sys2Proof

/-- The byte registers, in the order of their codes (30_encoding.md R305). -/
inductive Reg8 where
  | al | cl | dl | bl | ah | ch | dh | bh
  deriving DecidableEq, Repr

/-- The word registers, in the order of their codes (30_encoding.md R305). -/
inductive Reg16 where
  | ax | cx | dx | bx | sp | bp | si | di
  deriving DecidableEq, Repr

/-- The segment registers, in the order of their codes (30_encoding.md R305). -/
inductive SReg where
  | es | cs | ss | ds
  deriving DecidableEq, Repr

/-- The register part of an effective address, in the order of the rm codes (30_encoding.md R306).
The code 110 stands for BP, but for its form without a displacement, which is the direct address. -/
inductive EABase where
  | bxsi | bxdi | bpsi | bpdi | si | di | bp | bx
  deriving DecidableEq, Repr

/-- The displacement that mod selects: none (00), one byte (01), one word (10) (30_encoding.md R306). -/
inductive Disp where
  | none
  | d8 (d : Byte)
  | d16 (d : Word)
  deriving DecidableEq, Repr

/-- A memory operand of a ModR/M byte: the 24 forms of 30_encoding.md R306. -/
inductive EA where
  | direct (off : Word)
  | based (b : EABase) (d : Disp)
  deriving DecidableEq, Repr

/-- The r/m operand of a ModR/M byte: a register (mod = 11) or a memory operand (30_encoding.md R304). -/
inductive RM (R : Type) where
  | reg (r : R)
  | mem (a : EA)
  deriving DecidableEq, Repr

/-- What the repeat prefixes F3 and F2 ask for (43_string.md R701). -/
inductive RepCond where
  | repe | repne
  deriving DecidableEq, Repr

/-- The instructions. Each constructor is a mnemonic of spec/opcode_table.json (its map stands in LAWS.json).
A prefix byte is an instruction of its own here (30_encoding.md R301): it changes only the record of the
instruction that follows it. `refused` stands for the encodings of 30_encoding.md R313, by the opcode byte and the bytes
after it: the ModR/M byte (0F has none), the displacement and the immediate (log 24). The constructors with operands stand
first, then those without, each in the order of the table. -/
inductive Instr where
  /-- ADD Eb,Gb: 00, R505 -/
  | addEbGb (m : RM Reg8) (g : Reg8)
  /-- ADD Ew,Gw: 01, R505 -/
  | addEwGw (m : RM Reg16) (g : Reg16)
  /-- ADD Gb,Eb: 02, R505 -/
  | addGbEb (g : Reg8) (m : RM Reg8)
  /-- ADD Gw,Ew: 03, R505 -/
  | addGwEw (g : Reg16) (m : RM Reg16)
  /-- ADD AL,Ib: 04, R505 -/
  | addALIb (imm : Byte)
  /-- ADD AX,Iw: 05, R505 -/
  | addAXIw (imm : Word)
  /-- OR Eb,Gb: 08, R602 -/
  | orEbGb (m : RM Reg8) (g : Reg8)
  /-- OR Ew,Gw: 09, R602 -/
  | orEwGw (m : RM Reg16) (g : Reg16)
  /-- OR Gb,Eb: 0A, R602 -/
  | orGbEb (g : Reg8) (m : RM Reg8)
  /-- OR Gw,Ew: 0B, R602 -/
  | orGwEw (g : Reg16) (m : RM Reg16)
  /-- OR AL,Ib: 0C, R602 -/
  | orALIb (imm : Byte)
  /-- OR AX,Iw: 0D, R602 -/
  | orAXIw (imm : Word)
  /-- ADC Eb,Gb: 10, R506 -/
  | adcEbGb (m : RM Reg8) (g : Reg8)
  /-- ADC Ew,Gw: 11, R506 -/
  | adcEwGw (m : RM Reg16) (g : Reg16)
  /-- ADC Gb,Eb: 12, R506 -/
  | adcGbEb (g : Reg8) (m : RM Reg8)
  /-- ADC Gw,Ew: 13, R506 -/
  | adcGwEw (g : Reg16) (m : RM Reg16)
  /-- ADC AL,Ib: 14, R506 -/
  | adcALIb (imm : Byte)
  /-- ADC AX,Iw: 15, R506 -/
  | adcAXIw (imm : Word)
  /-- SBB Eb,Gb: 18, R508 -/
  | sbbEbGb (m : RM Reg8) (g : Reg8)
  /-- SBB Ew,Gw: 19, R508 -/
  | sbbEwGw (m : RM Reg16) (g : Reg16)
  /-- SBB Gb,Eb: 1A, R508 -/
  | sbbGbEb (g : Reg8) (m : RM Reg8)
  /-- SBB Gw,Ew: 1B, R508 -/
  | sbbGwEw (g : Reg16) (m : RM Reg16)
  /-- SBB AL,Ib: 1C, R508 -/
  | sbbALIb (imm : Byte)
  /-- SBB AX,Iw: 1D, R508 -/
  | sbbAXIw (imm : Word)
  /-- AND Eb,Gb: 20, R601 -/
  | andEbGb (m : RM Reg8) (g : Reg8)
  /-- AND Ew,Gw: 21, R601 -/
  | andEwGw (m : RM Reg16) (g : Reg16)
  /-- AND Gb,Eb: 22, R601 -/
  | andGbEb (g : Reg8) (m : RM Reg8)
  /-- AND Gw,Ew: 23, R601 -/
  | andGwEw (g : Reg16) (m : RM Reg16)
  /-- AND AL,Ib: 24, R601 -/
  | andALIb (imm : Byte)
  /-- AND AX,Iw: 25, R601 -/
  | andAXIw (imm : Word)
  /-- SUB Eb,Gb: 28, R507 -/
  | subEbGb (m : RM Reg8) (g : Reg8)
  /-- SUB Ew,Gw: 29, R507 -/
  | subEwGw (m : RM Reg16) (g : Reg16)
  /-- SUB Gb,Eb: 2A, R507 -/
  | subGbEb (g : Reg8) (m : RM Reg8)
  /-- SUB Gw,Ew: 2B, R507 -/
  | subGwEw (g : Reg16) (m : RM Reg16)
  /-- SUB AL,Ib: 2C, R507 -/
  | subALIb (imm : Byte)
  /-- SUB AX,Iw: 2D, R507 -/
  | subAXIw (imm : Word)
  /-- XOR Eb,Gb: 30, R603 -/
  | xorEbGb (m : RM Reg8) (g : Reg8)
  /-- XOR Ew,Gw: 31, R603 -/
  | xorEwGw (m : RM Reg16) (g : Reg16)
  /-- XOR Gb,Eb: 32, R603 -/
  | xorGbEb (g : Reg8) (m : RM Reg8)
  /-- XOR Gw,Ew: 33, R603 -/
  | xorGwEw (g : Reg16) (m : RM Reg16)
  /-- XOR AL,Ib: 34, R603 -/
  | xorALIb (imm : Byte)
  /-- XOR AX,Iw: 35, R603 -/
  | xorAXIw (imm : Word)
  /-- CMP Eb,Gb: 38, R509 -/
  | cmpEbGb (m : RM Reg8) (g : Reg8)
  /-- CMP Ew,Gw: 39, R509 -/
  | cmpEwGw (m : RM Reg16) (g : Reg16)
  /-- CMP Gb,Eb: 3A, R509 -/
  | cmpGbEb (g : Reg8) (m : RM Reg8)
  /-- CMP Gw,Ew: 3B, R509 -/
  | cmpGwEw (g : Reg16) (m : RM Reg16)
  /-- CMP AL,Ib: 3C, R509 -/
  | cmpALIb (imm : Byte)
  /-- CMP AX,Iw: 3D, R509 -/
  | cmpAXIw (imm : Word)
  /-- the refused encodings, R313 -/
  | refused (op : Byte) (bytes : List Byte)
  /-- JO Jb: 70 and 60, R815 -/
  | joJb (rel : Byte)
  /-- JNO Jb: 71 and 61, R816 -/
  | jnoJb (rel : Byte)
  /-- JB Jb: 72 and 62, R817 -/
  | jbJb (rel : Byte)
  /-- JAE Jb: 73 and 63, R818 -/
  | jaeJb (rel : Byte)
  /-- JE Jb: 74 and 64, R819 -/
  | jeJb (rel : Byte)
  /-- JNE Jb: 75 and 65, R820 -/
  | jneJb (rel : Byte)
  /-- JBE Jb: 76 and 66, R821 -/
  | jbeJb (rel : Byte)
  /-- JA Jb: 77 and 67, R822 -/
  | jaJb (rel : Byte)
  /-- JS Jb: 78 and 68, R823 -/
  | jsJb (rel : Byte)
  /-- JNS Jb: 79 and 69, R824 -/
  | jnsJb (rel : Byte)
  /-- JP Jb: 7A and 6A, R825 -/
  | jpJb (rel : Byte)
  /-- JNP Jb: 7B and 6B, R826 -/
  | jnpJb (rel : Byte)
  /-- JL Jb: 7C and 6C, R827 -/
  | jlJb (rel : Byte)
  /-- JGE Jb: 7D and 6D, R828 -/
  | jgeJb (rel : Byte)
  /-- JLE Jb: 7E and 6E, R829 -/
  | jleJb (rel : Byte)
  /-- JG Jb: 7F and 6F, R830 -/
  | jgJb (rel : Byte)
  /-- ADD Eb,Ib: 80 /0 and 82 /0, R505 -/
  | addEbIb (m : RM Reg8) (imm : Byte)
  /-- OR Eb,Ib: 80 /1 and 82 /1, R602 -/
  | orEbIb (m : RM Reg8) (imm : Byte)
  /-- ADC Eb,Ib: 80 /2 and 82 /2, R506 -/
  | adcEbIb (m : RM Reg8) (imm : Byte)
  /-- SBB Eb,Ib: 80 /3 and 82 /3, R508 -/
  | sbbEbIb (m : RM Reg8) (imm : Byte)
  /-- AND Eb,Ib: 80 /4 and 82 /4, R601 -/
  | andEbIb (m : RM Reg8) (imm : Byte)
  /-- SUB Eb,Ib: 80 /5 and 82 /5, R507 -/
  | subEbIb (m : RM Reg8) (imm : Byte)
  /-- XOR Eb,Ib: 80 /6 and 82 /6, R603 -/
  | xorEbIb (m : RM Reg8) (imm : Byte)
  /-- CMP Eb,Ib: 80 /7 and 82 /7, R509 -/
  | cmpEbIb (m : RM Reg8) (imm : Byte)
  /-- ADD Ew,Iw: 81 /0, R505 -/
  | addEwIw (m : RM Reg16) (imm : Word)
  /-- OR Ew,Iw: 81 /1, R602 -/
  | orEwIw (m : RM Reg16) (imm : Word)
  /-- ADC Ew,Iw: 81 /2, R506 -/
  | adcEwIw (m : RM Reg16) (imm : Word)
  /-- SBB Ew,Iw: 81 /3, R508 -/
  | sbbEwIw (m : RM Reg16) (imm : Word)
  /-- AND Ew,Iw: 81 /4, R601 -/
  | andEwIw (m : RM Reg16) (imm : Word)
  /-- SUB Ew,Iw: 81 /5, R507 -/
  | subEwIw (m : RM Reg16) (imm : Word)
  /-- XOR Ew,Iw: 81 /6, R603 -/
  | xorEwIw (m : RM Reg16) (imm : Word)
  /-- CMP Ew,Iw: 81 /7, R509 -/
  | cmpEwIw (m : RM Reg16) (imm : Word)
  /-- ADD Ew,Ibs: 83 /0, R505 -/
  | addEwIbs (m : RM Reg16) (imm : Byte)
  /-- OR Ew,Ibs: 83 /1, R602 -/
  | orEwIbs (m : RM Reg16) (imm : Byte)
  /-- ADC Ew,Ibs: 83 /2, R506 -/
  | adcEwIbs (m : RM Reg16) (imm : Byte)
  /-- SBB Ew,Ibs: 83 /3, R508 -/
  | sbbEwIbs (m : RM Reg16) (imm : Byte)
  /-- AND Ew,Ibs: 83 /4, R601 -/
  | andEwIbs (m : RM Reg16) (imm : Byte)
  /-- SUB Ew,Ibs: 83 /5, R507 -/
  | subEwIbs (m : RM Reg16) (imm : Byte)
  /-- XOR Ew,Ibs: 83 /6, R603 -/
  | xorEwIbs (m : RM Reg16) (imm : Byte)
  /-- CMP Ew,Ibs: 83 /7, R509 -/
  | cmpEwIbs (m : RM Reg16) (imm : Byte)
  /-- TEST Eb,Gb: 84, R604 -/
  | testEbGb (m : RM Reg8) (g : Reg8)
  /-- TEST Ew,Gw: 85, R604 -/
  | testEwGw (m : RM Reg16) (g : Reg16)
  /-- XCHG Eb,Gb: 86, R419 -/
  | xchgEbGb (m : RM Reg8) (g : Reg8)
  /-- XCHG Ew,Gw: 87, R419 -/
  | xchgEwGw (m : RM Reg16) (g : Reg16)
  /-- MOV Eb,Gb: 88, R400 -/
  | movEbGb (m : RM Reg8) (g : Reg8)
  /-- MOV Ew,Gw: 89, R400 -/
  | movEwGw (m : RM Reg16) (g : Reg16)
  /-- MOV Gb,Eb: 8A, R400 -/
  | movGbEb (g : Reg8) (m : RM Reg8)
  /-- MOV Gw,Ew: 8B, R400 -/
  | movGwEw (g : Reg16) (m : RM Reg16)
  /-- MOV Ew,ES: 8C /0 and 8C /4, R404 -/
  | movEwES (m : RM Reg16)
  /-- MOV Ew,CS: 8C /1 and 8C /5, R404 -/
  | movEwCS (m : RM Reg16)
  /-- MOV Ew,SS: 8C /2 and 8C /6, R404 -/
  | movEwSS (m : RM Reg16)
  /-- MOV Ew,DS: 8C /3 and 8C /7, R404 -/
  | movEwDS (m : RM Reg16)
  /-- LEA Gw,M: 8D, R424 -/
  | leaGwM (g : Reg16) (m : RM Reg16)
  /-- MOV ES,Ew: 8E /0 and 8E /4, R403 -/
  | movESEw (m : RM Reg16)
  /-- MOV SS,Ew: 8E /2 and 8E /6, R403 -/
  | movSSEw (m : RM Reg16)
  /-- MOV DS,Ew: 8E /3 and 8E /7, R403 -/
  | movDSEw (m : RM Reg16)
  /-- POP Ew: 8F /0, R417 -/
  | popEw (m : RM Reg16)
  /-- CALL Ap: 9A, R807 -/
  | callAp (off : Word) (seg : Word)
  /-- MOV AL,Ob: A0, R405 -/
  | movALOb (off : Word)
  /-- MOV AX,Ow: A1, R405 -/
  | movAXOw (off : Word)
  /-- MOV Ob,AL: A2, R406 -/
  | movObAL (off : Word)
  /-- MOV Ow,AX: A3, R406 -/
  | movOwAX (off : Word)
  /-- TEST AL,Ib: A8, R604 -/
  | testALIb (imm : Byte)
  /-- TEST AX,Iw: A9, R604 -/
  | testAXIw (imm : Word)
  /-- MOV AL,Ib: B0, R402 -/
  | movALIb (imm : Byte)
  /-- MOV CL,Ib: B1, R402 -/
  | movCLIb (imm : Byte)
  /-- MOV DL,Ib: B2, R402 -/
  | movDLIb (imm : Byte)
  /-- MOV BL,Ib: B3, R402 -/
  | movBLIb (imm : Byte)
  /-- MOV AH,Ib: B4, R402 -/
  | movAHIb (imm : Byte)
  /-- MOV CH,Ib: B5, R402 -/
  | movCHIb (imm : Byte)
  /-- MOV DH,Ib: B6, R402 -/
  | movDHIb (imm : Byte)
  /-- MOV BH,Ib: B7, R402 -/
  | movBHIb (imm : Byte)
  /-- MOV AX,Iw: B8, R402 -/
  | movAXIw (imm : Word)
  /-- MOV CX,Iw: B9, R402 -/
  | movCXIw (imm : Word)
  /-- MOV DX,Iw: BA, R402 -/
  | movDXIw (imm : Word)
  /-- MOV BX,Iw: BB, R402 -/
  | movBXIw (imm : Word)
  /-- MOV SP,Iw: BC, R402 -/
  | movSPIw (imm : Word)
  /-- MOV BP,Iw: BD, R402 -/
  | movBPIw (imm : Word)
  /-- MOV SI,Iw: BE, R402 -/
  | movSIIw (imm : Word)
  /-- MOV DI,Iw: BF, R402 -/
  | movDIIw (imm : Word)
  /-- RET Iw: C0 and C2, R811 -/
  | retIw (imm : Word)
  /-- LES Gw,Mp: C4, R426 -/
  | lesGwMp (g : Reg16) (a : EA)
  /-- LDS Gw,Mp: C5, R425 -/
  | ldsGwMp (g : Reg16) (a : EA)
  /-- MOV Eb,Ib: C6 /0, R401 -/
  | movEbIb (m : RM Reg8) (imm : Byte)
  /-- MOV Ew,Iw: C7 /0, R401 -/
  | movEwIw (m : RM Reg16) (imm : Word)
  /-- RETF Iw: C8 and CA, R813 -/
  | retfIw (imm : Word)
  /-- INT Ib: CD, R835 -/
  | intIb (imm : Byte)
  /-- ROL Eb,1: D0 /0, R608 -/
  | rolEb1 (m : RM Reg8)
  /-- ROR Eb,1: D0 /1, R609 -/
  | rorEb1 (m : RM Reg8)
  /-- RCL Eb,1: D0 /2, R610 -/
  | rclEb1 (m : RM Reg8)
  /-- RCR Eb,1: D0 /3, R611 -/
  | rcrEb1 (m : RM Reg8)
  /-- SHL Eb,1: D0 /4, R612 -/
  | shlEb1 (m : RM Reg8)
  /-- SHR Eb,1: D0 /5, R613 -/
  | shrEb1 (m : RM Reg8)
  /-- SAR Eb,1: D0 /7, R614 -/
  | sarEb1 (m : RM Reg8)
  /-- ROL Ew,1: D1 /0, R608 -/
  | rolEw1 (m : RM Reg16)
  /-- ROR Ew,1: D1 /1, R609 -/
  | rorEw1 (m : RM Reg16)
  /-- RCL Ew,1: D1 /2, R610 -/
  | rclEw1 (m : RM Reg16)
  /-- RCR Ew,1: D1 /3, R611 -/
  | rcrEw1 (m : RM Reg16)
  /-- SHL Ew,1: D1 /4, R612 -/
  | shlEw1 (m : RM Reg16)
  /-- SHR Ew,1: D1 /5, R613 -/
  | shrEw1 (m : RM Reg16)
  /-- SAR Ew,1: D1 /7, R614 -/
  | sarEw1 (m : RM Reg16)
  /-- ROL Eb,CL: D2 /0, R608 -/
  | rolEbCL (m : RM Reg8)
  /-- ROR Eb,CL: D2 /1, R609 -/
  | rorEbCL (m : RM Reg8)
  /-- RCL Eb,CL: D2 /2, R610 -/
  | rclEbCL (m : RM Reg8)
  /-- RCR Eb,CL: D2 /3, R611 -/
  | rcrEbCL (m : RM Reg8)
  /-- SHL Eb,CL: D2 /4, R612 -/
  | shlEbCL (m : RM Reg8)
  /-- SHR Eb,CL: D2 /5, R613 -/
  | shrEbCL (m : RM Reg8)
  /-- SAR Eb,CL: D2 /7, R614 -/
  | sarEbCL (m : RM Reg8)
  /-- ROL Ew,CL: D3 /0, R608 -/
  | rolEwCL (m : RM Reg16)
  /-- ROR Ew,CL: D3 /1, R609 -/
  | rorEwCL (m : RM Reg16)
  /-- RCL Ew,CL: D3 /2, R610 -/
  | rclEwCL (m : RM Reg16)
  /-- RCR Ew,CL: D3 /3, R611 -/
  | rcrEwCL (m : RM Reg16)
  /-- SHL Ew,CL: D3 /4, R612 -/
  | shlEwCL (m : RM Reg16)
  /-- SHR Ew,CL: D3 /5, R613 -/
  | shrEwCL (m : RM Reg16)
  /-- SAR Ew,CL: D3 /7, R614 -/
  | sarEwCL (m : RM Reg16)
  /-- AAM Ib: D4, R521 -/
  | aamIb (imm : Byte)
  /-- AAD Ib: D5, R522 -/
  | aadIb (imm : Byte)
  /-- ESC 0,E: D8, R909 -/
  | esc0E (x : BitVec 3) (m : RM Reg16)
  /-- ESC 1,E: D9, R909 -/
  | esc1E (x : BitVec 3) (m : RM Reg16)
  /-- ESC 2,E: DA, R909 -/
  | esc2E (x : BitVec 3) (m : RM Reg16)
  /-- ESC 3,E: DB, R909 -/
  | esc3E (x : BitVec 3) (m : RM Reg16)
  /-- ESC 4,E: DC, R909 -/
  | esc4E (x : BitVec 3) (m : RM Reg16)
  /-- ESC 5,E: DD, R909 -/
  | esc5E (x : BitVec 3) (m : RM Reg16)
  /-- ESC 6,E: DE, R909 -/
  | esc6E (x : BitVec 3) (m : RM Reg16)
  /-- ESC 7,E: DF, R909 -/
  | esc7E (x : BitVec 3) (m : RM Reg16)
  /-- LOOPNE Jb: E0, R833 -/
  | loopneJb (rel : Byte)
  /-- LOOPE Jb: E1, R832 -/
  | loopeJb (rel : Byte)
  /-- LOOP Jb: E2, R831 -/
  | loopJb (rel : Byte)
  /-- JCXZ Jb: E3, R834 -/
  | jcxzJb (rel : Byte)
  /-- IN AL,Ib: E4, R421 -/
  | inALIb (imm : Byte)
  /-- IN AX,Ib: E5, R421 -/
  | inAXIb (imm : Byte)
  /-- OUT Ib,AL: E6, R422 -/
  | outIbAL (imm : Byte)
  /-- OUT Ib,AX: E7, R422 -/
  | outIbAX (imm : Byte)
  /-- CALL Jw: E8, R806 -/
  | callJw (rel : Word)
  /-- JMP Jw: E9, R802 -/
  | jmpJw (rel : Word)
  /-- JMP Ap: EA, R803 -/
  | jmpAp (off : Word) (seg : Word)
  /-- JMP Jb: EB, R801 -/
  | jmpJb (rel : Byte)
  /-- TEST Eb,Ib: F6 /0 and F6 /1, R604 -/
  | testEbIb (m : RM Reg8) (imm : Byte)
  /-- NOT Eb: F6 /2, R605 -/
  | notEb (m : RM Reg8)
  /-- NEG Eb: F6 /3, R512 -/
  | negEb (m : RM Reg8)
  /-- MUL Eb: F6 /4, R513 -/
  | mulEb (m : RM Reg8)
  /-- IMUL Eb: F6 /5, R514 -/
  | imulEb (m : RM Reg8)
  /-- DIV Eb: F6 /6, R515 -/
  | divEb (m : RM Reg8)
  /-- IDIV Eb: F6 /7, R516 -/
  | idivEb (m : RM Reg8)
  /-- TEST Ew,Iw: F7 /0 and F7 /1, R604 -/
  | testEwIw (m : RM Reg16) (imm : Word)
  /-- NOT Ew: F7 /2, R605 -/
  | notEw (m : RM Reg16)
  /-- NEG Ew: F7 /3, R512 -/
  | negEw (m : RM Reg16)
  /-- MUL Ew: F7 /4, R513 -/
  | mulEw (m : RM Reg16)
  /-- IMUL Ew: F7 /5, R514 -/
  | imulEw (m : RM Reg16)
  /-- DIV Ew: F7 /6, R515 -/
  | divEw (m : RM Reg16)
  /-- IDIV Ew: F7 /7, R516 -/
  | idivEw (m : RM Reg16)
  /-- INC Eb: FE /0, R510 -/
  | incEb (m : RM Reg8)
  /-- DEC Eb: FE /1, R511 -/
  | decEb (m : RM Reg8)
  /-- INC Ew: FF /0, R510 -/
  | incEw (m : RM Reg16)
  /-- DEC Ew: FF /1, R511 -/
  | decEw (m : RM Reg16)
  /-- CALL Ew: FF /2, R808 -/
  | callEw (m : RM Reg16)
  /-- CALL Mp: FF /3, R809 -/
  | callMp (a : EA)
  /-- JMP Ew: FF /4, R804 -/
  | jmpEw (m : RM Reg16)
  /-- JMP Mp: FF /5, R805 -/
  | jmpMp (a : EA)
  /-- PUSH Ew: FF /6, R412 -/
  | pushEw (m : RM Reg16)
  /-- PUSH ES: 06, R411 -/
  | pushES
  /-- POP ES: 07, R416 -/
  | popES
  /-- PUSH CS: 0E, R411 -/
  | pushCS
  /-- PUSH SS: 16, R411 -/
  | pushSS
  /-- POP SS: 17, R416 -/
  | popSS
  /-- PUSH DS: 1E, R411 -/
  | pushDS
  /-- POP DS: 1F, R416 -/
  | popDS
  /-- ES:: 26, R911 -/
  | prefixES
  /-- CS:: 2E, R911 -/
  | prefixCS
  /-- SS:: 36, R911 -/
  | prefixSS
  /-- DS:: 3E, R911 -/
  | prefixDS
  /-- DAA: 27, R519 -/
  | daa
  /-- DAS: 2F, R520 -/
  | das
  /-- AAA: 37, R517 -/
  | aaa
  /-- AAS: 3F, R518 -/
  | aas
  /-- INC AX: 40, R510 -/
  | incAX
  /-- INC CX: 41, R510 -/
  | incCX
  /-- INC DX: 42, R510 -/
  | incDX
  /-- INC BX: 43, R510 -/
  | incBX
  /-- INC SP: 44, R510 -/
  | incSP
  /-- INC BP: 45, R510 -/
  | incBP
  /-- INC SI: 46, R510 -/
  | incSI
  /-- INC DI: 47, R510 -/
  | incDI
  /-- DEC AX: 48, R511 -/
  | decAX
  /-- DEC CX: 49, R511 -/
  | decCX
  /-- DEC DX: 4A, R511 -/
  | decDX
  /-- DEC BX: 4B, R511 -/
  | decBX
  /-- DEC SP: 4C, R511 -/
  | decSP
  /-- DEC BP: 4D, R511 -/
  | decBP
  /-- DEC SI: 4E, R511 -/
  | decSI
  /-- DEC DI: 4F, R511 -/
  | decDI
  /-- PUSH AX: 50, R410 -/
  | pushAX
  /-- PUSH CX: 51, R410 -/
  | pushCX
  /-- PUSH DX: 52, R410 -/
  | pushDX
  /-- PUSH BX: 53, R410 -/
  | pushBX
  /-- PUSH SP: 54, R410 -/
  | pushSP
  /-- PUSH BP: 55, R410 -/
  | pushBP
  /-- PUSH SI: 56, R410 -/
  | pushSI
  /-- PUSH DI: 57, R410 -/
  | pushDI
  /-- POP AX: 58, R415 -/
  | popAX
  /-- POP CX: 59, R415 -/
  | popCX
  /-- POP DX: 5A, R415 -/
  | popDX
  /-- POP BX: 5B, R415 -/
  | popBX
  /-- POP SP: 5C, R415 -/
  | popSP
  /-- POP BP: 5D, R415 -/
  | popBP
  /-- POP SI: 5E, R415 -/
  | popSI
  /-- POP DI: 5F, R415 -/
  | popDI
  /-- NOP: 90, R420 -/
  | nop
  /-- XCHG AX,CX: 91, R419 -/
  | xchgAXCX
  /-- XCHG AX,DX: 92, R419 -/
  | xchgAXDX
  /-- XCHG AX,BX: 93, R419 -/
  | xchgAXBX
  /-- XCHG AX,SP: 94, R419 -/
  | xchgAXSP
  /-- XCHG AX,BP: 95, R419 -/
  | xchgAXBP
  /-- XCHG AX,SI: 96, R419 -/
  | xchgAXSI
  /-- XCHG AX,DI: 97, R419 -/
  | xchgAXDI
  /-- CBW: 98, R523 -/
  | cbw
  /-- CWD: 99, R524 -/
  | cwd
  /-- WAIT: 9B, R907 -/
  | wait
  /-- PUSHF: 9C, R413 -/
  | pushf
  /-- POPF: 9D, R418 -/
  | popf
  /-- SAHF: 9E, R428 -/
  | sahf
  /-- LAHF: 9F, R427 -/
  | lahf
  /-- MOVSB: A4, R703 -/
  | movsb
  /-- MOVSW: A5, R703 -/
  | movsw
  /-- CMPSB: A6, R704 -/
  | cmpsb
  /-- CMPSW: A7, R704 -/
  | cmpsw
  /-- STOSB: AA, R707 -/
  | stosb
  /-- STOSW: AB, R707 -/
  | stosw
  /-- LODSB: AC, R706 -/
  | lodsb
  /-- LODSW: AD, R706 -/
  | lodsw
  /-- SCASB: AE, R705 -/
  | scasb
  /-- SCASW: AF, R705 -/
  | scasw
  /-- RET: C1 and C3, R810 -/
  | ret
  /-- RETF: C9 and CB, R812 -/
  | retf
  /-- INT3: CC, R836 -/
  | int3
  /-- INTO: CE, R837 -/
  | into
  /-- IRET: CF, R838 -/
  | iret
  /-- SALC: D6, R525 -/
  | salc
  /-- XLAT: D7, R423 -/
  | xlat
  /-- IN AL,DX: EC, R421 -/
  | inALDX
  /-- IN AX,DX: ED, R421 -/
  | inAXDX
  /-- OUT DX,AL: EE, R422 -/
  | outDXAL
  /-- OUT DX,AX: EF, R422 -/
  | outDXAX
  /-- LOCK: F0 and F1, R910 -/
  | lock
  /-- REPNE: F2, R701 -/
  | repne
  /-- REP/REPE: F3, R701 -/
  | rep
  /-- HLT: F4, R906 -/
  | hlt
  /-- CMC: F5, R902 -/
  | cmc
  /-- CLC: F8, R900 -/
  | clc
  /-- STC: F9, R901 -/
  | stc
  /-- CLI: FA, R905 -/
  | cli
  /-- STI: FB, R908 -/
  | sti
  /-- CLD: FC, R903 -/
  | cld
  /-- STD: FD, R904 -/
  | std
  deriving DecidableEq, Repr

end Sys2Proof
end

