-- ==== Sys2Proof/Decode.lean ====
section
/-! DEFINITION. The decoder, from 30_encoding.md R300 to R316: a 256-entry table of operand forms, the ModR/M byte
and its displacement, the immediate bytes; and after it the encoder, from the same rules. A prefix byte decodes as an
instruction of its own (R301); what it does to the instruction after it is said in Machine/Sequence.lean. -/

namespace Sys2Proof

/-! ### Bytes and words (20_memory.md R204, 00_scope.md R9) -/

/-- The word with low byte `lo` and high byte `hi`. -/
def wordOf (lo hi : Byte) : Word := hi ++ lo

/-- Bits 7 to 0. -/
def loByte (w : Word) : Byte := w.extractLsb' 0 8

/-- Bits 15 to 8. -/
def hiByte (w : Word) : Byte := w.extractLsb' 8 8

/-- A word as its two bytes, low byte first (R204). -/
def wordBytes (w : Word) : List Byte := [loByte w, hiByte w]

/-- `sext_16` of a byte (00_scope.md R9). -/
def sext16 (b : Byte) : Word := b.signExtend 16

/-- `zext_16` of a byte (00_scope.md R9). -/
def zext16 (b : Byte) : Word := b.setWidth 16

/-! ### Register codes (30_encoding.md R305) -/

/-- The byte register of a 3-bit code. -/
def Reg8.ofBits (c : BitVec 3) : Reg8 :=
  match c.toNat with
  | 0 => .al
  | 1 => .cl
  | 2 => .dl
  | 3 => .bl
  | 4 => .ah
  | 5 => .ch
  | 6 => .dh
  | _ => .bh

/-- The code of a byte register. -/
def Reg8.bits : Reg8 → BitVec 3
  | .al => 0
  | .cl => 1
  | .dl => 2
  | .bl => 3
  | .ah => 4
  | .ch => 5
  | .dh => 6
  | .bh => 7

/-- The word register of a 3-bit code. -/
def Reg16.ofBits (c : BitVec 3) : Reg16 :=
  match c.toNat with
  | 0 => .ax
  | 1 => .cx
  | 2 => .dx
  | 3 => .bx
  | 4 => .sp
  | 5 => .bp
  | 6 => .si
  | _ => .di

/-- The code of a word register. -/
def Reg16.bits : Reg16 → BitVec 3
  | .ax => 0
  | .cx => 1
  | .dx => 2
  | .bx => 3
  | .sp => 4
  | .bp => 5
  | .si => 6
  | .di => 7

/-- The register part of the effective address that an rm code names (30_encoding.md R306). -/
def EABase.ofBits (c : BitVec 3) : EABase :=
  match c.toNat with
  | 0 => .bxsi
  | 1 => .bxdi
  | 2 => .bpsi
  | 3 => .bpdi
  | 4 => .si
  | 5 => .di
  | 6 => .bp
  | _ => .bx

/-- The rm code of the register part of an effective address (30_encoding.md R306). -/
def EABase.bits : EABase → BitVec 3
  | .bxsi => 0
  | .bxdi => 1
  | .bpsi => 2
  | .bpdi => 3
  | .si => 4
  | .di => 5
  | .bp => 6
  | .bx => 7

/-- Apply a function to the register of an r/m operand. -/
def RM.map {R S : Type} (f : R → S) : RM R → RM S
  | .reg r => .reg (f r)
  | .mem a => .mem a

/-! ### The ModR/M byte (30_encoding.md R304, R306) -/

/-- mod, bits 7 and 6. -/
def modField (b : Byte) : BitVec 2 := b.extractLsb' 6 2

/-- reg, bits 5 to 3. -/
def regField (b : Byte) : BitVec 3 := b.extractLsb' 3 3

/-- rm, bits 2 to 0. -/
def rmField (b : Byte) : BitVec 3 := b.extractLsb' 0 3

/-- The ModR/M byte with the given fields. -/
def modRMByte (mod : BitVec 2) (reg rm : BitVec 3) : Byte := mod ++ (reg ++ rm)

/-- The r/m operand of a ModR/M byte, reading its displacement from the bytes that follow; what is left of them.
`none` when the bytes end inside the displacement. -/
def decodeRM (b : Byte) (bs : List Byte) : Option (RM (BitVec 3) × List Byte) :=
  match (modField b).toNat with
  | 0 =>
    if (rmField b).toNat = 6 then
      match bs with
      | lo :: hi :: rest => some (.mem (.direct (wordOf lo hi)), rest)
      | _ => none
    else some (.mem (.based (EABase.ofBits (rmField b)) .none), bs)
  | 1 =>
    match bs with
    | d :: rest => some (.mem (.based (EABase.ofBits (rmField b)) (.d8 d)), rest)
    | _ => none
  | 2 =>
    match bs with
    | lo :: hi :: rest => some (.mem (.based (EABase.ofBits (rmField b)) (.d16 (wordOf lo hi))), rest)
    | _ => none
  | _ => some (.reg (rmField b), bs)

/-! ### Refused encodings (30_encoding.md R313) -/

/-- The encodings R313 refuses whatever prefixes stand before them, by opcode byte and ModR/M byte. -/
def refusedEncoding (op : Byte) (modrm : Option Byte) : Bool :=
  match modrm with
  | none => op == 0x0F
  | some b =>
    let reg := (regField b).toNat
    let register := modField b == 3
    (op == 0x8E && (reg == 1 || reg == 5)) ||
    ((op == 0x8F || op == 0xC6 || op == 0xC7) && reg != 0) ||
    ((op == 0xD0 || op == 0xD1 || op == 0xD2 || op == 0xD3) && reg == 6) ||
    (op == 0xFE && 2 ≤ reg) ||
    (op == 0xFF && reg == 7) ||
    (op == 0xFF && (reg == 3 || reg == 5) && register) ||
    ((op == 0xC4 || op == 0xC5) && register)

/-- How many displacement bytes follow a ModR/M byte (30_encoding.md R306). -/
def dispLength (b : Byte) : Nat :=
  match (modField b).toNat with
  | 0 => if (rmField b).toNat = 6 then 2 else 0
  | 1 => 1
  | 2 => 2
  | _ => 0

/-- How many bytes of a refused encoding follow its opcode byte: the ModR/M byte, the displacement, and the immediate that
C6 and C7 have whatever their reg field is (30_encoding.md R316). -/
def refusedLength (op : Byte) (modrm : Option Byte) : Nat :=
  match modrm with
  | none => 0
  | some b => 1 + dispLength b + (if op = 0xC6 then 1 else if op = 0xC7 then 2 else 0)

/-- The instructions that R313 refuses after a repeat prefix: F6 and F7 with reg = 100 to 111. -/
def Instr.refusedUnderRepeat : Instr → Bool
  | .mulEb _ => true
  | .mulEw _ => true
  | .imulEb _ => true
  | .imulEw _ => true
  | .divEb _ => true
  | .divEw _ => true
  | .idivEb _ => true
  | .idivEw _ => true
  | _ => false

/-- A prefix byte (30_encoding.md R301; F1 is a LOCK too, R314). -/
def isPrefixByte (b : Byte) : Bool := [0x26, 0x2E, 0x36, 0x3E, 0xF0, 0xF1, 0xF2, 0xF3].contains b

/-- The instructions that stand for the prefix bytes (30_encoding.md R301). -/
def Instr.isPrefix : Instr → Bool
  | .prefixES => true
  | .prefixCS => true
  | .prefixSS => true
  | .prefixDS => true
  | .lock => true
  | .repne => true
  | .rep => true
  | _ => false

/-! ### Operand forms -/

/-- What follows the opcode byte, or the ModR/M byte and its displacement: nothing, an immediate byte, an immediate
word, or a far pointer (30_encoding.md R309). -/
inductive Tail where
  | done (i : Instr)
  | ib (f : Byte → Instr)
  | iw (f : Word → Instr)
  | far (f : Word → Word → Instr)

/-- An entry of the opcode table: with or without a ModR/M byte. The function takes the ModR/M byte, its reg field
and its r/m operand. -/
inductive Form where
  | tail (t : Tail)
  | modrm (k : Byte → BitVec 3 → RM (BitVec 3) → Tail)

/-- Choose by the reg field of a group opcode (30_encoding.md R312). -/
def byReg {α : Type} (r : BitVec 3) (a0 a1 a2 a3 a4 a5 a6 a7 : α) : α :=
  match r.toNat with
  | 0 => a0
  | 1 => a1
  | 2 => a2
  | 3 => a3
  | 4 => a4
  | 5 => a5
  | 6 => a6
  | _ => a7

/-- A form that takes a memory operand only; the register form is refused (30_encoding.md R313). -/
def memOnly (m : RM (BitVec 3)) (f : EA → Instr) (refusal : Instr) : Tail :=
  match m with
  | .mem a => .done (f a)
  | .reg _ => .done refusal

/-- Eb,Gb. -/
def ebGb (f : RM Reg8 → Reg8 → Instr) : Form := .modrm fun _ r m => .done (f (m.map Reg8.ofBits) (Reg8.ofBits r))
/-- Ew,Gw. -/
def ewGw (f : RM Reg16 → Reg16 → Instr) : Form := .modrm fun _ r m => .done (f (m.map Reg16.ofBits) (Reg16.ofBits r))
/-- Gb,Eb. -/
def gbEb (f : Reg8 → RM Reg8 → Instr) : Form := .modrm fun _ r m => .done (f (Reg8.ofBits r) (m.map Reg8.ofBits))
/-- Gw,Ew and Gw,M. -/
def gwEw (f : Reg16 → RM Reg16 → Instr) : Form := .modrm fun _ r m => .done (f (Reg16.ofBits r) (m.map Reg16.ofBits))
/-- ESC: the reg field belongs to the coprocessor's operation code (45_processor_control.md R909). -/
def esc (f : BitVec 3 → RM Reg16 → Instr) : Form := .modrm fun _ r m => .done (f r (m.map Reg16.ofBits))
/-- Gw,Mp: LES and LDS; their register form is refused before the table is asked (R313). -/
def gwMp (f : Reg16 → EA → Instr) : Form :=
  .modrm fun b r m => memOnly m (f (Reg16.ofBits r)) (.refused 0xC4 [b])
/-- A group of byte operands. -/
def grp8 (k : Byte → BitVec 3 → RM (BitVec 3) → RM Reg8 → Tail) : Form := .modrm fun b r m => k b r m (m.map Reg8.ofBits)
/-- A group of word operands. -/
def grp16 (k : Byte → BitVec 3 → RM (BitVec 3) → RM Reg16 → Tail) : Form := .modrm fun b r m => k b r m (m.map Reg16.ofBits)

/-! ### The opcode table -/

/-- Opcodes 00 to 0F (30_encoding.md R310). -/
def opRow0 : List Form := [
    ebGb .addEbGb,
    ewGw .addEwGw,
    gbEb .addGbEb,
    gwEw .addGwEw,
    .tail (.ib .addALIb),
    .tail (.iw .addAXIw),
    .tail (.done .pushES),
    .tail (.done .popES),
    ebGb .orEbGb,
    ewGw .orEwGw,
    gbEb .orGbEb,
    gwEw .orGwEw,
    .tail (.ib .orALIb),
    .tail (.iw .orAXIw),
    .tail (.done .pushCS),
    .tail (.done (.refused 0x0F []))]

/-- Opcodes 10 to 1F (30_encoding.md R310). -/
def opRow1 : List Form := [
    ebGb .adcEbGb,
    ewGw .adcEwGw,
    gbEb .adcGbEb,
    gwEw .adcGwEw,
    .tail (.ib .adcALIb),
    .tail (.iw .adcAXIw),
    .tail (.done .pushSS),
    .tail (.done .popSS),
    ebGb .sbbEbGb,
    ewGw .sbbEwGw,
    gbEb .sbbGbEb,
    gwEw .sbbGwEw,
    .tail (.ib .sbbALIb),
    .tail (.iw .sbbAXIw),
    .tail (.done .pushDS),
    .tail (.done .popDS)]

/-- Opcodes 20 to 2F (30_encoding.md R310). -/
def opRow2 : List Form := [
    ebGb .andEbGb,
    ewGw .andEwGw,
    gbEb .andGbEb,
    gwEw .andGwEw,
    .tail (.ib .andALIb),
    .tail (.iw .andAXIw),
    .tail (.done .prefixES),
    .tail (.done .daa),
    ebGb .subEbGb,
    ewGw .subEwGw,
    gbEb .subGbEb,
    gwEw .subGwEw,
    .tail (.ib .subALIb),
    .tail (.iw .subAXIw),
    .tail (.done .prefixCS),
    .tail (.done .das)]

/-- Opcodes 30 to 3F (30_encoding.md R310). -/
def opRow3 : List Form := [
    ebGb .xorEbGb,
    ewGw .xorEwGw,
    gbEb .xorGbEb,
    gwEw .xorGwEw,
    .tail (.ib .xorALIb),
    .tail (.iw .xorAXIw),
    .tail (.done .prefixSS),
    .tail (.done .aaa),
    ebGb .cmpEbGb,
    ewGw .cmpEwGw,
    gbEb .cmpGbEb,
    gwEw .cmpGwEw,
    .tail (.ib .cmpALIb),
    .tail (.iw .cmpAXIw),
    .tail (.done .prefixDS),
    .tail (.done .aas)]

/-- Opcodes 40 to 4F (30_encoding.md R310). -/
def opRow4 : List Form := [
    .tail (.done .incAX),
    .tail (.done .incCX),
    .tail (.done .incDX),
    .tail (.done .incBX),
    .tail (.done .incSP),
    .tail (.done .incBP),
    .tail (.done .incSI),
    .tail (.done .incDI),
    .tail (.done .decAX),
    .tail (.done .decCX),
    .tail (.done .decDX),
    .tail (.done .decBX),
    .tail (.done .decSP),
    .tail (.done .decBP),
    .tail (.done .decSI),
    .tail (.done .decDI)]

/-- Opcodes 50 to 5F (30_encoding.md R310). -/
def opRow5 : List Form := [
    .tail (.done .pushAX),
    .tail (.done .pushCX),
    .tail (.done .pushDX),
    .tail (.done .pushBX),
    .tail (.done .pushSP),
    .tail (.done .pushBP),
    .tail (.done .pushSI),
    .tail (.done .pushDI),
    .tail (.done .popAX),
    .tail (.done .popCX),
    .tail (.done .popDX),
    .tail (.done .popBX),
    .tail (.done .popSP),
    .tail (.done .popBP),
    .tail (.done .popSI),
    .tail (.done .popDI)]

/-- Opcodes 60 to 6F (30_encoding.md R310). -/
def opRow6 : List Form := [
    .tail (.ib .joJb),
    .tail (.ib .jnoJb),
    .tail (.ib .jbJb),
    .tail (.ib .jaeJb),
    .tail (.ib .jeJb),
    .tail (.ib .jneJb),
    .tail (.ib .jbeJb),
    .tail (.ib .jaJb),
    .tail (.ib .jsJb),
    .tail (.ib .jnsJb),
    .tail (.ib .jpJb),
    .tail (.ib .jnpJb),
    .tail (.ib .jlJb),
    .tail (.ib .jgeJb),
    .tail (.ib .jleJb),
    .tail (.ib .jgJb)]

/-- Opcodes 70 to 7F (30_encoding.md R310). -/
def opRow7 : List Form := [
    .tail (.ib .joJb),
    .tail (.ib .jnoJb),
    .tail (.ib .jbJb),
    .tail (.ib .jaeJb),
    .tail (.ib .jeJb),
    .tail (.ib .jneJb),
    .tail (.ib .jbeJb),
    .tail (.ib .jaJb),
    .tail (.ib .jsJb),
    .tail (.ib .jnsJb),
    .tail (.ib .jpJb),
    .tail (.ib .jnpJb),
    .tail (.ib .jlJb),
    .tail (.ib .jgeJb),
    .tail (.ib .jleJb),
    .tail (.ib .jgJb)]

/-- Opcodes 80 to 8F (30_encoding.md R311, R312). -/
def opRow8 : List Form := [
    grp8 fun _ r _ e => byReg r
      (.ib (.addEbIb e)) (.ib (.orEbIb e)) (.ib (.adcEbIb e)) (.ib (.sbbEbIb e))
      (.ib (.andEbIb e)) (.ib (.subEbIb e)) (.ib (.xorEbIb e)) (.ib (.cmpEbIb e)),
    grp16 fun _ r _ e => byReg r
      (.iw (.addEwIw e)) (.iw (.orEwIw e)) (.iw (.adcEwIw e)) (.iw (.sbbEwIw e))
      (.iw (.andEwIw e)) (.iw (.subEwIw e)) (.iw (.xorEwIw e)) (.iw (.cmpEwIw e)),
    grp8 fun _ r _ e => byReg r
      (.ib (.addEbIb e)) (.ib (.orEbIb e)) (.ib (.adcEbIb e)) (.ib (.sbbEbIb e))
      (.ib (.andEbIb e)) (.ib (.subEbIb e)) (.ib (.xorEbIb e)) (.ib (.cmpEbIb e)),
    grp16 fun _ r _ e => byReg r
      (.ib (.addEwIbs e)) (.ib (.orEwIbs e)) (.ib (.adcEwIbs e)) (.ib (.sbbEwIbs e))
      (.ib (.andEwIbs e)) (.ib (.subEwIbs e)) (.ib (.xorEwIbs e)) (.ib (.cmpEwIbs e)),
    ebGb .testEbGb,
    ewGw .testEwGw,
    ebGb .xchgEbGb,
    ewGw .xchgEwGw,
    ebGb .movEbGb,
    ewGw .movEwGw,
    gbEb .movGbEb,
    gwEw .movGwEw,
    grp16 fun _ r _ e => byReg r
      (.done (.movEwES e)) (.done (.movEwCS e)) (.done (.movEwSS e)) (.done (.movEwDS e))
      (.done (.movEwES e)) (.done (.movEwCS e)) (.done (.movEwSS e)) (.done (.movEwDS e)),
    gwEw .leaGwM,
    grp16 fun b r _ e => byReg r
      (.done (.movESEw e)) (.done (.refused 0x8E [b])) (.done (.movSSEw e)) (.done (.movDSEw e))
      (.done (.movESEw e)) (.done (.refused 0x8E [b])) (.done (.movSSEw e)) (.done (.movDSEw e)),
    grp16 fun b r _ e => byReg r
      (.done (.popEw e)) (.done (.refused 0x8F [b])) (.done (.refused 0x8F [b])) (.done (.refused 0x8F [b]))
      (.done (.refused 0x8F [b])) (.done (.refused 0x8F [b])) (.done (.refused 0x8F [b])) (.done (.refused 0x8F [b]))]

/-- Opcodes 90 to 9F (30_encoding.md R311, R312). -/
def opRow9 : List Form := [
    .tail (.done .nop),
    .tail (.done .xchgAXCX),
    .tail (.done .xchgAXDX),
    .tail (.done .xchgAXBX),
    .tail (.done .xchgAXSP),
    .tail (.done .xchgAXBP),
    .tail (.done .xchgAXSI),
    .tail (.done .xchgAXDI),
    .tail (.done .cbw),
    .tail (.done .cwd),
    .tail (.far .callAp),
    .tail (.done .wait),
    .tail (.done .pushf),
    .tail (.done .popf),
    .tail (.done .sahf),
    .tail (.done .lahf)]

/-- Opcodes A0 to AF (30_encoding.md R311, R312). -/
def opRowA : List Form := [
    .tail (.iw .movALOb),
    .tail (.iw .movAXOw),
    .tail (.iw .movObAL),
    .tail (.iw .movOwAX),
    .tail (.done .movsb),
    .tail (.done .movsw),
    .tail (.done .cmpsb),
    .tail (.done .cmpsw),
    .tail (.ib .testALIb),
    .tail (.iw .testAXIw),
    .tail (.done .stosb),
    .tail (.done .stosw),
    .tail (.done .lodsb),
    .tail (.done .lodsw),
    .tail (.done .scasb),
    .tail (.done .scasw)]

/-- Opcodes B0 to BF (30_encoding.md R311, R312). -/
def opRowB : List Form := [
    .tail (.ib .movALIb),
    .tail (.ib .movCLIb),
    .tail (.ib .movDLIb),
    .tail (.ib .movBLIb),
    .tail (.ib .movAHIb),
    .tail (.ib .movCHIb),
    .tail (.ib .movDHIb),
    .tail (.ib .movBHIb),
    .tail (.iw .movAXIw),
    .tail (.iw .movCXIw),
    .tail (.iw .movDXIw),
    .tail (.iw .movBXIw),
    .tail (.iw .movSPIw),
    .tail (.iw .movBPIw),
    .tail (.iw .movSIIw),
    .tail (.iw .movDIIw)]

/-- Opcodes C0 to CF (30_encoding.md R311, R312). -/
def opRowC : List Form := [
    .tail (.iw .retIw),
    .tail (.done .ret),
    .tail (.iw .retIw),
    .tail (.done .ret),
    gwMp .lesGwMp,
    gwMp .ldsGwMp,
    grp8 fun b r _ e => byReg r
      (.ib (.movEbIb e)) (.done (.refused 0xC6 [b])) (.done (.refused 0xC6 [b])) (.done (.refused 0xC6 [b]))
      (.done (.refused 0xC6 [b])) (.done (.refused 0xC6 [b])) (.done (.refused 0xC6 [b])) (.done (.refused 0xC6 [b])),
    grp16 fun b r _ e => byReg r
      (.iw (.movEwIw e)) (.done (.refused 0xC7 [b])) (.done (.refused 0xC7 [b])) (.done (.refused 0xC7 [b]))
      (.done (.refused 0xC7 [b])) (.done (.refused 0xC7 [b])) (.done (.refused 0xC7 [b])) (.done (.refused 0xC7 [b])),
    .tail (.iw .retfIw),
    .tail (.done .retf),
    .tail (.iw .retfIw),
    .tail (.done .retf),
    .tail (.done .int3),
    .tail (.ib .intIb),
    .tail (.done .into),
    .tail (.done .iret)]

/-- Opcodes D0 to DF (30_encoding.md R311, R312). -/
def opRowD : List Form := [
    grp8 fun b r _ e => byReg r
      (.done (.rolEb1 e)) (.done (.rorEb1 e)) (.done (.rclEb1 e)) (.done (.rcrEb1 e))
      (.done (.shlEb1 e)) (.done (.shrEb1 e)) (.done (.refused 0xD0 [b])) (.done (.sarEb1 e)),
    grp16 fun b r _ e => byReg r
      (.done (.rolEw1 e)) (.done (.rorEw1 e)) (.done (.rclEw1 e)) (.done (.rcrEw1 e))
      (.done (.shlEw1 e)) (.done (.shrEw1 e)) (.done (.refused 0xD1 [b])) (.done (.sarEw1 e)),
    grp8 fun b r _ e => byReg r
      (.done (.rolEbCL e)) (.done (.rorEbCL e)) (.done (.rclEbCL e)) (.done (.rcrEbCL e))
      (.done (.shlEbCL e)) (.done (.shrEbCL e)) (.done (.refused 0xD2 [b])) (.done (.sarEbCL e)),
    grp16 fun b r _ e => byReg r
      (.done (.rolEwCL e)) (.done (.rorEwCL e)) (.done (.rclEwCL e)) (.done (.rcrEwCL e))
      (.done (.shlEwCL e)) (.done (.shrEwCL e)) (.done (.refused 0xD3 [b])) (.done (.sarEwCL e)),
    .tail (.ib .aamIb),
    .tail (.ib .aadIb),
    .tail (.done .salc),
    .tail (.done .xlat),
    esc .esc0E,
    esc .esc1E,
    esc .esc2E,
    esc .esc3E,
    esc .esc4E,
    esc .esc5E,
    esc .esc6E,
    esc .esc7E]

/-- Opcodes E0 to EF (30_encoding.md R311, R312). -/
def opRowE : List Form := [
    .tail (.ib .loopneJb),
    .tail (.ib .loopeJb),
    .tail (.ib .loopJb),
    .tail (.ib .jcxzJb),
    .tail (.ib .inALIb),
    .tail (.ib .inAXIb),
    .tail (.ib .outIbAL),
    .tail (.ib .outIbAX),
    .tail (.iw .callJw),
    .tail (.iw .jmpJw),
    .tail (.far .jmpAp),
    .tail (.ib .jmpJb),
    .tail (.done .inALDX),
    .tail (.done .inAXDX),
    .tail (.done .outDXAL),
    .tail (.done .outDXAX)]

/-- Opcodes F0 to FF (30_encoding.md R311, R312). -/
def opRowF : List Form := [
    .tail (.done .lock),
    .tail (.done .lock),
    .tail (.done .repne),
    .tail (.done .rep),
    .tail (.done .hlt),
    .tail (.done .cmc),
    grp8 fun _ r _ e => byReg r
      (.ib (.testEbIb e)) (.ib (.testEbIb e)) (.done (.notEb e)) (.done (.negEb e))
      (.done (.mulEb e)) (.done (.imulEb e)) (.done (.divEb e)) (.done (.idivEb e)),
    grp16 fun _ r _ e => byReg r
      (.iw (.testEwIw e)) (.iw (.testEwIw e)) (.done (.notEw e)) (.done (.negEw e))
      (.done (.mulEw e)) (.done (.imulEw e)) (.done (.divEw e)) (.done (.idivEw e)),
    .tail (.done .clc),
    .tail (.done .stc),
    .tail (.done .cli),
    .tail (.done .sti),
    .tail (.done .cld),
    .tail (.done .std),
    grp8 fun b r _ e => byReg r
      (.done (.incEb e)) (.done (.decEb e)) (.done (.refused 0xFE [b])) (.done (.refused 0xFE [b]))
      (.done (.refused 0xFE [b])) (.done (.refused 0xFE [b])) (.done (.refused 0xFE [b])) (.done (.refused 0xFE [b])),
    grp16 fun b r m e => byReg r
      (.done (.incEw e)) (.done (.decEw e)) (.done (.callEw e)) (memOnly m (.callMp) (.refused 0xFF [b]))
      (.done (.jmpEw e)) (memOnly m (.jmpMp) (.refused 0xFF [b])) (.done (.pushEw e)) (.done (.refused 0xFF [b]))]

/-- The 256 entries in opcode order (30_encoding.md R310, R311). -/
def opTable : List Form :=
  opRow0 ++ opRow1 ++ opRow2 ++ opRow3 ++ opRow4 ++ opRow5 ++ opRow6 ++ opRow7 ++
  opRow8 ++ opRow9 ++ opRowA ++ opRowB ++ opRowC ++ opRowD ++ opRowE ++ opRowF

/-- The form of an opcode byte. -/
def opForm (op : Byte) : Form := opTable.getD op.toNat (.tail (.done .nop))

/-! ### Decoding -/

/-- Why bytes do not decode: they end inside the instruction. Every other byte sequence decodes, a refused encoding
to `refused` (30_encoding.md R313, R316). -/
inductive DecodeError where
  | truncated
  deriving DecidableEq, Repr

/-- The result of decoding: the instruction and the bytes after it, or the reason there is none. -/
abbrev Decoded := Except DecodeError (Instr × List Byte)

/-- Read the immediate bytes (30_encoding.md R309). -/
def Tail.finish (t : Tail) (bs : List Byte) : Decoded :=
  match t with
  | .done i => .ok (i, bs)
  | .ib f =>
    match bs with
    | b :: rest => .ok (f b, rest)
    | _ => .error .truncated
  | .iw f =>
    match bs with
    | lo :: hi :: rest => .ok (f (wordOf lo hi), rest)
    | _ => .error .truncated
  | .far f =>
    match bs with
    | a :: b :: c :: d :: rest => .ok (f (wordOf a b) (wordOf c d), rest)
    | _ => .error .truncated

/-- All the bytes of a refused encoding are read, and then it is refused (30_encoding.md R316); `bytes` are those after its
opcode byte. -/
def decodeRefused (op : Byte) (bytes : List Byte) : Decoded :=
  let n := refusedLength op bytes.head?
  if n ≤ bytes.length then .ok (.refused op (bytes.take n), bytes.drop n) else .error .truncated

/-- Read the ModR/M byte, its displacement and the immediate (30_encoding.md R316). -/
def decodeModRM (op : Byte) (k : Byte → BitVec 3 → RM (BitVec 3) → Tail) (bs : List Byte) : Decoded :=
  match bs with
  | [] => .error .truncated
  | b :: rest =>
    if refusedEncoding op (some b) then decodeRefused op bs
    else
      match decodeRM b rest with
      | some (m, rest') => (k b (regField b) m).finish rest'
      | none => .error .truncated

/-- Decode one instruction, or one prefix byte, from the head of the bytes (30_encoding.md R316). -/
def decode (bs : List Byte) : Decoded :=
  match bs with
  | [] => .error .truncated
  | op :: rest =>
    match opForm op with
    | .tail t => t.finish rest
    | .modrm k => decodeModRM op k rest

/-! ### Words of spec/opcode_table.json -/

/-- The bytes of a table word: the table writes an opcode byte and the byte after it as the 16-bit value
`opcode << 8 | modrm` (30_encoding.md R326), so in each 16 bits the first byte is the high one; a row of 8 bits is one
byte. Bytes above `nbits` are zeros, up to `n` bytes in all (log 18). -/
def tableBytes : Nat → Nat → Nat → List Byte
  | 0, _, _ => []
  | n + 1, nbits, w =>
    if nbits = 0 then 0 :: tableBytes n 0 0
    else if nbits ≤ 8 then BitVec.ofNat 8 w :: tableBytes n 0 0
    else
      match n with
      | 0 => [BitVec.ofNat 8 (w / 256)]
      | k + 1 => BitVec.ofNat 8 (w / 256) :: BitVec.ofNat 8 w :: tableBytes k (nbits - 16) (w / 65536)

/-- How many bytes a table word is laid out in: a prefix and the longest instruction after it (30_encoding.md R300). -/
def tableSpan : Nat := 8

/-- The instruction the decoder reads from a word of the opcode table. -/
def decodeTableWord (nbits w : Nat) : Option Instr :=
  match decode (tableBytes tableSpan nbits w) with
  | .ok (i, _) => some i
  | .error _ => none

/-! ### Encoding -/

/-- The ModR/M byte and displacement of an r/m operand (30_encoding.md R304, R306). -/
def encodeRM (reg : BitVec 3) : RM (BitVec 3) → List Byte
  | .reg r => [modRMByte 3 reg r]
  | .mem (.direct d) => modRMByte 0 reg 6 :: wordBytes d
  | .mem (.based b .none) => [modRMByte 0 reg b.bits]
  | .mem (.based b (.d8 d)) => [modRMByte 1 reg b.bits, d]
  | .mem (.based b (.d16 d)) => modRMByte 2 reg b.bits :: wordBytes d

/-- The bytes of an instruction (30_encoding.md R300, R309 to R312); of two encodings of one instruction (R314) the
documented one. -/
def encode : Instr → List Byte
  | .addEbGb m g => 0x00 :: (encodeRM g.bits (m.map Reg8.bits))
  | .addEwGw m g => 0x01 :: (encodeRM g.bits (m.map Reg16.bits))
  | .addGbEb g m => 0x02 :: (encodeRM g.bits (m.map Reg8.bits))
  | .addGwEw g m => 0x03 :: (encodeRM g.bits (m.map Reg16.bits))
  | .addALIb imm => [0x04, imm]
  | .addAXIw imm => 0x05 :: wordBytes imm
  | .orEbGb m g => 0x08 :: (encodeRM g.bits (m.map Reg8.bits))
  | .orEwGw m g => 0x09 :: (encodeRM g.bits (m.map Reg16.bits))
  | .orGbEb g m => 0x0A :: (encodeRM g.bits (m.map Reg8.bits))
  | .orGwEw g m => 0x0B :: (encodeRM g.bits (m.map Reg16.bits))
  | .orALIb imm => [0x0C, imm]
  | .orAXIw imm => 0x0D :: wordBytes imm
  | .adcEbGb m g => 0x10 :: (encodeRM g.bits (m.map Reg8.bits))
  | .adcEwGw m g => 0x11 :: (encodeRM g.bits (m.map Reg16.bits))
  | .adcGbEb g m => 0x12 :: (encodeRM g.bits (m.map Reg8.bits))
  | .adcGwEw g m => 0x13 :: (encodeRM g.bits (m.map Reg16.bits))
  | .adcALIb imm => [0x14, imm]
  | .adcAXIw imm => 0x15 :: wordBytes imm
  | .sbbEbGb m g => 0x18 :: (encodeRM g.bits (m.map Reg8.bits))
  | .sbbEwGw m g => 0x19 :: (encodeRM g.bits (m.map Reg16.bits))
  | .sbbGbEb g m => 0x1A :: (encodeRM g.bits (m.map Reg8.bits))
  | .sbbGwEw g m => 0x1B :: (encodeRM g.bits (m.map Reg16.bits))
  | .sbbALIb imm => [0x1C, imm]
  | .sbbAXIw imm => 0x1D :: wordBytes imm
  | .andEbGb m g => 0x20 :: (encodeRM g.bits (m.map Reg8.bits))
  | .andEwGw m g => 0x21 :: (encodeRM g.bits (m.map Reg16.bits))
  | .andGbEb g m => 0x22 :: (encodeRM g.bits (m.map Reg8.bits))
  | .andGwEw g m => 0x23 :: (encodeRM g.bits (m.map Reg16.bits))
  | .andALIb imm => [0x24, imm]
  | .andAXIw imm => 0x25 :: wordBytes imm
  | .subEbGb m g => 0x28 :: (encodeRM g.bits (m.map Reg8.bits))
  | .subEwGw m g => 0x29 :: (encodeRM g.bits (m.map Reg16.bits))
  | .subGbEb g m => 0x2A :: (encodeRM g.bits (m.map Reg8.bits))
  | .subGwEw g m => 0x2B :: (encodeRM g.bits (m.map Reg16.bits))
  | .subALIb imm => [0x2C, imm]
  | .subAXIw imm => 0x2D :: wordBytes imm
  | .xorEbGb m g => 0x30 :: (encodeRM g.bits (m.map Reg8.bits))
  | .xorEwGw m g => 0x31 :: (encodeRM g.bits (m.map Reg16.bits))
  | .xorGbEb g m => 0x32 :: (encodeRM g.bits (m.map Reg8.bits))
  | .xorGwEw g m => 0x33 :: (encodeRM g.bits (m.map Reg16.bits))
  | .xorALIb imm => [0x34, imm]
  | .xorAXIw imm => 0x35 :: wordBytes imm
  | .cmpEbGb m g => 0x38 :: (encodeRM g.bits (m.map Reg8.bits))
  | .cmpEwGw m g => 0x39 :: (encodeRM g.bits (m.map Reg16.bits))
  | .cmpGbEb g m => 0x3A :: (encodeRM g.bits (m.map Reg8.bits))
  | .cmpGwEw g m => 0x3B :: (encodeRM g.bits (m.map Reg16.bits))
  | .cmpALIb imm => [0x3C, imm]
  | .cmpAXIw imm => 0x3D :: wordBytes imm
  | .pushES => [0x06]
  | .popES => [0x07]
  | .pushCS => [0x0E]
  | .pushSS => [0x16]
  | .popSS => [0x17]
  | .pushDS => [0x1E]
  | .popDS => [0x1F]
  | .refused op bytes => op :: bytes
  | .prefixES => [0x26]
  | .prefixCS => [0x2E]
  | .prefixSS => [0x36]
  | .prefixDS => [0x3E]
  | .daa => [0x27]
  | .das => [0x2F]
  | .aaa => [0x37]
  | .aas => [0x3F]
  | .incAX => [0x40]
  | .incCX => [0x41]
  | .incDX => [0x42]
  | .incBX => [0x43]
  | .incSP => [0x44]
  | .incBP => [0x45]
  | .incSI => [0x46]
  | .incDI => [0x47]
  | .decAX => [0x48]
  | .decCX => [0x49]
  | .decDX => [0x4A]
  | .decBX => [0x4B]
  | .decSP => [0x4C]
  | .decBP => [0x4D]
  | .decSI => [0x4E]
  | .decDI => [0x4F]
  | .pushAX => [0x50]
  | .pushCX => [0x51]
  | .pushDX => [0x52]
  | .pushBX => [0x53]
  | .pushSP => [0x54]
  | .pushBP => [0x55]
  | .pushSI => [0x56]
  | .pushDI => [0x57]
  | .popAX => [0x58]
  | .popCX => [0x59]
  | .popDX => [0x5A]
  | .popBX => [0x5B]
  | .popSP => [0x5C]
  | .popBP => [0x5D]
  | .popSI => [0x5E]
  | .popDI => [0x5F]
  | .joJb rel => [0x70, rel]
  | .jnoJb rel => [0x71, rel]
  | .jbJb rel => [0x72, rel]
  | .jaeJb rel => [0x73, rel]
  | .jeJb rel => [0x74, rel]
  | .jneJb rel => [0x75, rel]
  | .jbeJb rel => [0x76, rel]
  | .jaJb rel => [0x77, rel]
  | .jsJb rel => [0x78, rel]
  | .jnsJb rel => [0x79, rel]
  | .jpJb rel => [0x7A, rel]
  | .jnpJb rel => [0x7B, rel]
  | .jlJb rel => [0x7C, rel]
  | .jgeJb rel => [0x7D, rel]
  | .jleJb rel => [0x7E, rel]
  | .jgJb rel => [0x7F, rel]
  | .addEbIb m imm => 0x80 :: (encodeRM 0 (m.map Reg8.bits) ++ [imm])
  | .orEbIb m imm => 0x80 :: (encodeRM 1 (m.map Reg8.bits) ++ [imm])
  | .adcEbIb m imm => 0x80 :: (encodeRM 2 (m.map Reg8.bits) ++ [imm])
  | .sbbEbIb m imm => 0x80 :: (encodeRM 3 (m.map Reg8.bits) ++ [imm])
  | .andEbIb m imm => 0x80 :: (encodeRM 4 (m.map Reg8.bits) ++ [imm])
  | .subEbIb m imm => 0x80 :: (encodeRM 5 (m.map Reg8.bits) ++ [imm])
  | .xorEbIb m imm => 0x80 :: (encodeRM 6 (m.map Reg8.bits) ++ [imm])
  | .cmpEbIb m imm => 0x80 :: (encodeRM 7 (m.map Reg8.bits) ++ [imm])
  | .addEwIw m imm => 0x81 :: (encodeRM 0 (m.map Reg16.bits) ++ wordBytes imm)
  | .orEwIw m imm => 0x81 :: (encodeRM 1 (m.map Reg16.bits) ++ wordBytes imm)
  | .adcEwIw m imm => 0x81 :: (encodeRM 2 (m.map Reg16.bits) ++ wordBytes imm)
  | .sbbEwIw m imm => 0x81 :: (encodeRM 3 (m.map Reg16.bits) ++ wordBytes imm)
  | .andEwIw m imm => 0x81 :: (encodeRM 4 (m.map Reg16.bits) ++ wordBytes imm)
  | .subEwIw m imm => 0x81 :: (encodeRM 5 (m.map Reg16.bits) ++ wordBytes imm)
  | .xorEwIw m imm => 0x81 :: (encodeRM 6 (m.map Reg16.bits) ++ wordBytes imm)
  | .cmpEwIw m imm => 0x81 :: (encodeRM 7 (m.map Reg16.bits) ++ wordBytes imm)
  | .addEwIbs m imm => 0x83 :: (encodeRM 0 (m.map Reg16.bits) ++ [imm])
  | .orEwIbs m imm => 0x83 :: (encodeRM 1 (m.map Reg16.bits) ++ [imm])
  | .adcEwIbs m imm => 0x83 :: (encodeRM 2 (m.map Reg16.bits) ++ [imm])
  | .sbbEwIbs m imm => 0x83 :: (encodeRM 3 (m.map Reg16.bits) ++ [imm])
  | .andEwIbs m imm => 0x83 :: (encodeRM 4 (m.map Reg16.bits) ++ [imm])
  | .subEwIbs m imm => 0x83 :: (encodeRM 5 (m.map Reg16.bits) ++ [imm])
  | .xorEwIbs m imm => 0x83 :: (encodeRM 6 (m.map Reg16.bits) ++ [imm])
  | .cmpEwIbs m imm => 0x83 :: (encodeRM 7 (m.map Reg16.bits) ++ [imm])
  | .testEbGb m g => 0x84 :: (encodeRM g.bits (m.map Reg8.bits))
  | .testEwGw m g => 0x85 :: (encodeRM g.bits (m.map Reg16.bits))
  | .xchgEbGb m g => 0x86 :: (encodeRM g.bits (m.map Reg8.bits))
  | .xchgEwGw m g => 0x87 :: (encodeRM g.bits (m.map Reg16.bits))
  | .movEbGb m g => 0x88 :: (encodeRM g.bits (m.map Reg8.bits))
  | .movEwGw m g => 0x89 :: (encodeRM g.bits (m.map Reg16.bits))
  | .movGbEb g m => 0x8A :: (encodeRM g.bits (m.map Reg8.bits))
  | .movGwEw g m => 0x8B :: (encodeRM g.bits (m.map Reg16.bits))
  | .movEwES m => 0x8C :: (encodeRM 0 (m.map Reg16.bits))
  | .movEwCS m => 0x8C :: (encodeRM 1 (m.map Reg16.bits))
  | .movEwSS m => 0x8C :: (encodeRM 2 (m.map Reg16.bits))
  | .movEwDS m => 0x8C :: (encodeRM 3 (m.map Reg16.bits))
  | .leaGwM g m => 0x8D :: (encodeRM g.bits (m.map Reg16.bits))
  | .movESEw m => 0x8E :: (encodeRM 0 (m.map Reg16.bits))
  | .movSSEw m => 0x8E :: (encodeRM 2 (m.map Reg16.bits))
  | .movDSEw m => 0x8E :: (encodeRM 3 (m.map Reg16.bits))
  | .popEw m => 0x8F :: (encodeRM 0 (m.map Reg16.bits))
  | .nop => [0x90]
  | .xchgAXCX => [0x91]
  | .xchgAXDX => [0x92]
  | .xchgAXBX => [0x93]
  | .xchgAXSP => [0x94]
  | .xchgAXBP => [0x95]
  | .xchgAXSI => [0x96]
  | .xchgAXDI => [0x97]
  | .cbw => [0x98]
  | .cwd => [0x99]
  | .callAp off seg => 0x9A :: (wordBytes off ++ wordBytes seg)
  | .wait => [0x9B]
  | .pushf => [0x9C]
  | .popf => [0x9D]
  | .sahf => [0x9E]
  | .lahf => [0x9F]
  | .movALOb off => 0xA0 :: wordBytes off
  | .movAXOw off => 0xA1 :: wordBytes off
  | .movObAL off => 0xA2 :: wordBytes off
  | .movOwAX off => 0xA3 :: wordBytes off
  | .movsb => [0xA4]
  | .movsw => [0xA5]
  | .cmpsb => [0xA6]
  | .cmpsw => [0xA7]
  | .testALIb imm => [0xA8, imm]
  | .testAXIw imm => 0xA9 :: wordBytes imm
  | .stosb => [0xAA]
  | .stosw => [0xAB]
  | .lodsb => [0xAC]
  | .lodsw => [0xAD]
  | .scasb => [0xAE]
  | .scasw => [0xAF]
  | .movALIb imm => [0xB0, imm]
  | .movCLIb imm => [0xB1, imm]
  | .movDLIb imm => [0xB2, imm]
  | .movBLIb imm => [0xB3, imm]
  | .movAHIb imm => [0xB4, imm]
  | .movCHIb imm => [0xB5, imm]
  | .movDHIb imm => [0xB6, imm]
  | .movBHIb imm => [0xB7, imm]
  | .movAXIw imm => 0xB8 :: wordBytes imm
  | .movCXIw imm => 0xB9 :: wordBytes imm
  | .movDXIw imm => 0xBA :: wordBytes imm
  | .movBXIw imm => 0xBB :: wordBytes imm
  | .movSPIw imm => 0xBC :: wordBytes imm
  | .movBPIw imm => 0xBD :: wordBytes imm
  | .movSIIw imm => 0xBE :: wordBytes imm
  | .movDIIw imm => 0xBF :: wordBytes imm
  | .retIw imm => 0xC2 :: wordBytes imm
  | .ret => [0xC3]
  | .lesGwMp g a => 0xC4 :: (encodeRM g.bits (.mem a))
  | .ldsGwMp g a => 0xC5 :: (encodeRM g.bits (.mem a))
  | .movEbIb m imm => 0xC6 :: (encodeRM 0 (m.map Reg8.bits) ++ [imm])
  | .movEwIw m imm => 0xC7 :: (encodeRM 0 (m.map Reg16.bits) ++ wordBytes imm)
  | .retfIw imm => 0xCA :: wordBytes imm
  | .retf => [0xCB]
  | .int3 => [0xCC]
  | .intIb imm => [0xCD, imm]
  | .into => [0xCE]
  | .iret => [0xCF]
  | .rolEb1 m => 0xD0 :: (encodeRM 0 (m.map Reg8.bits))
  | .rorEb1 m => 0xD0 :: (encodeRM 1 (m.map Reg8.bits))
  | .rclEb1 m => 0xD0 :: (encodeRM 2 (m.map Reg8.bits))
  | .rcrEb1 m => 0xD0 :: (encodeRM 3 (m.map Reg8.bits))
  | .shlEb1 m => 0xD0 :: (encodeRM 4 (m.map Reg8.bits))
  | .shrEb1 m => 0xD0 :: (encodeRM 5 (m.map Reg8.bits))
  | .sarEb1 m => 0xD0 :: (encodeRM 7 (m.map Reg8.bits))
  | .rolEw1 m => 0xD1 :: (encodeRM 0 (m.map Reg16.bits))
  | .rorEw1 m => 0xD1 :: (encodeRM 1 (m.map Reg16.bits))
  | .rclEw1 m => 0xD1 :: (encodeRM 2 (m.map Reg16.bits))
  | .rcrEw1 m => 0xD1 :: (encodeRM 3 (m.map Reg16.bits))
  | .shlEw1 m => 0xD1 :: (encodeRM 4 (m.map Reg16.bits))
  | .shrEw1 m => 0xD1 :: (encodeRM 5 (m.map Reg16.bits))
  | .sarEw1 m => 0xD1 :: (encodeRM 7 (m.map Reg16.bits))
  | .rolEbCL m => 0xD2 :: (encodeRM 0 (m.map Reg8.bits))
  | .rorEbCL m => 0xD2 :: (encodeRM 1 (m.map Reg8.bits))
  | .rclEbCL m => 0xD2 :: (encodeRM 2 (m.map Reg8.bits))
  | .rcrEbCL m => 0xD2 :: (encodeRM 3 (m.map Reg8.bits))
  | .shlEbCL m => 0xD2 :: (encodeRM 4 (m.map Reg8.bits))
  | .shrEbCL m => 0xD2 :: (encodeRM 5 (m.map Reg8.bits))
  | .sarEbCL m => 0xD2 :: (encodeRM 7 (m.map Reg8.bits))
  | .rolEwCL m => 0xD3 :: (encodeRM 0 (m.map Reg16.bits))
  | .rorEwCL m => 0xD3 :: (encodeRM 1 (m.map Reg16.bits))
  | .rclEwCL m => 0xD3 :: (encodeRM 2 (m.map Reg16.bits))
  | .rcrEwCL m => 0xD3 :: (encodeRM 3 (m.map Reg16.bits))
  | .shlEwCL m => 0xD3 :: (encodeRM 4 (m.map Reg16.bits))
  | .shrEwCL m => 0xD3 :: (encodeRM 5 (m.map Reg16.bits))
  | .sarEwCL m => 0xD3 :: (encodeRM 7 (m.map Reg16.bits))
  | .aamIb imm => [0xD4, imm]
  | .aadIb imm => [0xD5, imm]
  | .salc => [0xD6]
  | .xlat => [0xD7]
  | .esc0E x m => 0xD8 :: (encodeRM x (m.map Reg16.bits))
  | .esc1E x m => 0xD9 :: (encodeRM x (m.map Reg16.bits))
  | .esc2E x m => 0xDA :: (encodeRM x (m.map Reg16.bits))
  | .esc3E x m => 0xDB :: (encodeRM x (m.map Reg16.bits))
  | .esc4E x m => 0xDC :: (encodeRM x (m.map Reg16.bits))
  | .esc5E x m => 0xDD :: (encodeRM x (m.map Reg16.bits))
  | .esc6E x m => 0xDE :: (encodeRM x (m.map Reg16.bits))
  | .esc7E x m => 0xDF :: (encodeRM x (m.map Reg16.bits))
  | .loopneJb rel => [0xE0, rel]
  | .loopeJb rel => [0xE1, rel]
  | .loopJb rel => [0xE2, rel]
  | .jcxzJb rel => [0xE3, rel]
  | .inALIb imm => [0xE4, imm]
  | .inAXIb imm => [0xE5, imm]
  | .outIbAL imm => [0xE6, imm]
  | .outIbAX imm => [0xE7, imm]
  | .callJw rel => 0xE8 :: wordBytes rel
  | .jmpJw rel => 0xE9 :: wordBytes rel
  | .jmpAp off seg => 0xEA :: (wordBytes off ++ wordBytes seg)
  | .jmpJb rel => [0xEB, rel]
  | .inALDX => [0xEC]
  | .inAXDX => [0xED]
  | .outDXAL => [0xEE]
  | .outDXAX => [0xEF]
  | .lock => [0xF0]
  | .repne => [0xF2]
  | .rep => [0xF3]
  | .hlt => [0xF4]
  | .cmc => [0xF5]
  | .testEbIb m imm => 0xF6 :: (encodeRM 0 (m.map Reg8.bits) ++ [imm])
  | .notEb m => 0xF6 :: (encodeRM 2 (m.map Reg8.bits))
  | .negEb m => 0xF6 :: (encodeRM 3 (m.map Reg8.bits))
  | .mulEb m => 0xF6 :: (encodeRM 4 (m.map Reg8.bits))
  | .imulEb m => 0xF6 :: (encodeRM 5 (m.map Reg8.bits))
  | .divEb m => 0xF6 :: (encodeRM 6 (m.map Reg8.bits))
  | .idivEb m => 0xF6 :: (encodeRM 7 (m.map Reg8.bits))
  | .testEwIw m imm => 0xF7 :: (encodeRM 0 (m.map Reg16.bits) ++ wordBytes imm)
  | .notEw m => 0xF7 :: (encodeRM 2 (m.map Reg16.bits))
  | .negEw m => 0xF7 :: (encodeRM 3 (m.map Reg16.bits))
  | .mulEw m => 0xF7 :: (encodeRM 4 (m.map Reg16.bits))
  | .imulEw m => 0xF7 :: (encodeRM 5 (m.map Reg16.bits))
  | .divEw m => 0xF7 :: (encodeRM 6 (m.map Reg16.bits))
  | .idivEw m => 0xF7 :: (encodeRM 7 (m.map Reg16.bits))
  | .clc => [0xF8]
  | .stc => [0xF9]
  | .cli => [0xFA]
  | .sti => [0xFB]
  | .cld => [0xFC]
  | .std => [0xFD]
  | .incEb m => 0xFE :: (encodeRM 0 (m.map Reg8.bits))
  | .decEb m => 0xFE :: (encodeRM 1 (m.map Reg8.bits))
  | .incEw m => 0xFF :: (encodeRM 0 (m.map Reg16.bits))
  | .decEw m => 0xFF :: (encodeRM 1 (m.map Reg16.bits))
  | .callEw m => 0xFF :: (encodeRM 2 (m.map Reg16.bits))
  | .callMp a => 0xFF :: (encodeRM 3 (.mem a))
  | .jmpEw m => 0xFF :: (encodeRM 4 (m.map Reg16.bits))
  | .jmpMp a => 0xFF :: (encodeRM 5 (.mem a))
  | .pushEw m => 0xFF :: (encodeRM 6 (m.map Reg16.bits))

end Sys2Proof
end

