-- ==== Sys2Proof/Config.lean ====
section
/-! DEFINITION. What is fixed for the machine: the parameters of 00_scope.md R8 that the 8088 settles, as constants;
the type of those that R8 leaves OPEN, as data of the state (log 4); and the free values, opaque constants that no
proof can evaluate (10_state.md R112, log 5). -/

namespace Sys2Proof

/-- INT_VECTOR_ORDER: the vector is read after all pushes of an interrupt entry, or before the first (00_scope.md R8,
60_exceptions.md R1010). -/
inductive VectorOrder where
  | afterPushes | beforePushes
  deriving DecidableEq, Repr

/-- TRAP_WITH_INTERRUPT: what becomes of a pending single-step trap when NMI or INTR is taken at the same boundary
(60_exceptions.md R1051). -/
inductive TrapWithInterrupt where
  | lost | trapFirst | trapAfterEntry
  deriving DecidableEq, Repr

/-- The OPEN parameters of 00_scope.md R8 that are not inputs of a step, each under its own name there. -/
structure Params where
  /-- INT_VECTOR_ORDER -/
  intVectorOrder : VectorOrder
  /-- TRAP_AFTER_SREG_LOAD -/
  trapAfterSregLoad : Bool
  /-- SREG_LOAD_INHIBIT -/
  sregLoadInhibit : Bool
  /-- TRAP_WITH_INTERRUPT -/
  trapWithInterrupt : TrapWithInterrupt
  /-- TRAP_AFTER_SOFT_INT -/
  trapAfterSoftInt : Bool
  /-- TRAP_PER_REP_ITERATION -/
  trapPerRepIteration : Bool
  /-- ESC_MEM_READ -/
  escMemRead : Bool
  deriving DecidableEq, Repr

namespace Config

/-- QUEUE_SIZE, in bytes (00_scope.md R8). -/
def queueSize : Nat := 4

/-- FETCH_MIN_FREE, in bytes (00_scope.md R8). -/
def fetchMinFree : Nat := 1

/-- FETCH_POLICY_LEN (00_scope.md R8). -/
def fetchPolicyLen : Nat := 3

/-- FETCH_DELAY, in ticks (00_scope.md R8). -/
def fetchDelay : Nat := 3

/-- ABORT_PENALTY, in ticks (00_scope.md R8). -/
def abortPenalty : Nat := 2

/-- RESET_CS (00_scope.md R8). -/
def resetCS : Word := 0xFFFF

/-- RESET_IP (00_scope.md R8). -/
def resetIP : Word := 0x0000

/-- UNMAPPED_READ (00_scope.md R8). -/
def unmappedRead : Byte := 0xFF

/-- A free bit: the value of an undefined flag at a draw (10_state.md R112; log 5). -/
opaque freeBit : Nat → Bool

/-- A free word: the value of an unspecified register at a draw (00_scope.md R11 `draw()`; log 5). -/
opaque freeWord : Nat → Word

/-- A free byte: the answer of a device or port that the state's script does not give (20_memory.md R210; log 7). -/
opaque freeAnswer : Nat → Byte

/-- A free byte: what a code fetch reads from a device region (20_memory.md R210; log 8). -/
opaque freeCode : Nat → Byte

/-- The microcode program counter after a step (30_encoding.md R319; log 21). -/
opaque freeMcPc : Nat → Word

/-- The address bus during an interrupt-acknowledge cycle (20_memory.md R227; log 21). -/
opaque freeIntAckAddr : Nat → LinAddr

/-- The address bus during the halt pulse (20_memory.md R244; log 21). -/
opaque freeHaltAddr : Nat → LinAddr

end Config

end Sys2Proof
end

