-- ==== Sys2Proof/Machine/State.lean ====
section
/-! DEFINITION. The state of the machine as plain data: everything 10_state.md names (R100 to R121, R123), memory, the
platform's answers and the inputs of the steps to come (00_scope.md R8), the model's own counters, the faults and
refusals, and the state after reset (10_state.md R124). -/

namespace Sys2Proof.Machine

/-- Why the machine stops. -/
inductive Fault where
  /-- Raised by a step whose six code bytes end inside an instruction; no instruction is longer than six bytes
  (30_encoding.md R300), so no step raises it. Safe. -/
  | codeTruncated
  deriving DecidableEq, Repr

/-- Why the model gives no meaning. -/
inductive Refusal where
  /-- Answered by an arm of `exec` whose instruction has no meaning yet. Safe. -/
  | notModelled (mnemonic : String)
  /-- Answered by every step after one that met an encoding of 30_encoding.md R313 (the mark `refused`, 10_state.md
  R123). Safe. -/
  | unsupportedOpcode
  deriving DecidableEq, Repr

/-- The general, pointer and index registers (10_state.md R100, R101). -/
structure Regs where
  ax : Word
  bx : Word
  cx : Word
  dx : Word
  sp : Word
  bp : Word
  si : Word
  di : Word
  deriving DecidableEq, Repr

/-- The segment registers (10_state.md R104). -/
structure SRegs where
  es : Word
  cs : Word
  ss : Word
  ds : Word
  deriving DecidableEq, Repr

/-- The nine flags (10_state.md R108). `ifl` is IF and `ofl` is OF. The reserved bits hold no state (R109). -/
structure Flags where
  cf : Bool
  pf : Bool
  af : Bool
  zf : Bool
  sf : Bool
  tf : Bool
  ifl : Bool
  df : Bool
  ofl : Bool
  deriving DecidableEq, Repr

/-- The string primitives (43_string.md R703 to R707). -/
inductive StringPrim where
  | movs | cmps | scas | lods | stos
  deriving DecidableEq, Repr

/-- Operand widths (00_scope.md R9). -/
inductive Width where
  | byte | word
  deriving DecidableEq, Repr

/-- A repeated string instruction in progress (10_state.md R114, 43_string.md R701). `seg` names the segment register
of the source. -/
structure RepState where
  prim : StringPrim
  width : Width
  cond : RepCond
  seg : SReg
  resumeIp : Word
  deriving DecidableEq, Repr

/-- The hidden state of the execution unit (10_state.md R114), the offset WAIT records (45_processor_control.md R907),
the prefixes read so far of the instruction record being decoded (10_state.md R116, 30_encoding.md R316), and whether a
prefix run goes on in the next step (70_reset_and_hazards.md R1115; log 11). -/
structure Eu where
  halted : Bool
  nmiLatch : Bool
  inhibitAll : Bool
  inhibitIntr : Bool
  trapArmed : Bool
  lockActive : Bool
  rep : Option RepState
  waiting : Bool
  waitIp : Word
  mcPc : Word
  segOverride : Option SReg
  repPrefix : Option RepCond
  decoding : Bool
  deriving DecidableEq, Repr

/-- The kind of a bus transaction (10_state.md R119, 20_memory.md R222). -/
inductive BusStatus where
  | passive | codeFetch | memRead | memWrite | ioRead | ioWrite | intAck | halt
  deriving DecidableEq, Repr

/-- T-states (10_state.md R119, 20_memory.md R223). -/
inductive TState where
  | tinit | t1 | t2 | t3 | tw | t4 | ti
  deriving DecidableEq, Repr

/-- States of the address pipeline (10_state.md R120, 20_memory.md R237). -/
inductive TaState where
  | tr | ts | t0 | td | ta
  deriving DecidableEq, Repr

/-- Classes of a waiting EU request (10_state.md R120, 20_memory.md R238). -/
inductive Pending where
  | none | euEarly | euLate
  deriving DecidableEq, Repr

/-- Fetch states (10_state.md R118, 20_memory.md R232). -/
inductive FetchState where
  | normal
  | suspended
  | pausedFull
  | halted
  | delayed (n : Nat)
  deriving DecidableEq, Repr

/-- A request for one bus transaction: its kind, address and data (10_state.md R120), and the transfer fields that it
sets when it starts (20_memory.md R228). -/
structure Request where
  kind : BusStatus
  addr : LinAddr
  data : Byte
  operandSize : Width
  transferN : Nat
  finalTransfer : Bool
  deriving DecidableEq, Repr

/-- A read of the queue that the EU waits for: of the first byte of an instruction, of the byte after a prefix, of any
later byte, or `fetch_next()` (20_memory.md R231, R252). -/
inductive QueueRead where
  | first | afterPrefix | next | fetchNext
  deriving DecidableEq, Repr

/-- The state of the Bus Interface Unit (10_state.md R107, R117 to R121). -/
structure Biu where
  /-- the prefetch queue, head first (R117) -/
  queue : List Byte
  /-- the preload slot (R117) -/
  preload : Option Byte
  /-- the fetch pointer (R107) -/
  pc : Word
  /-- the fetch state (R118) -/
  fetch : FetchState
  /-- bus_status (R119) -/
  status : BusStatus
  /-- t_cycle (R119) -/
  tState : TState
  /-- the latched address (R119) -/
  addr : LinAddr
  /-- the data bus value (R119) -/
  data : Byte
  transferSize : Width
  operandSize : Width
  transferN : Nat
  finalTransfer : Bool
  /-- wait states still to insert (R119, 20_memory.md R224) -/
  waitRemaining : Nat
  /-- the second byte transaction of the pair in progress, still to be requested (20_memory.md R242, R243) -/
  nextHalf : Option Request
  /-- the code fetch in progress was started before a flush (20_memory.md R230) -/
  discarded : Bool
  /-- ta_cycle (R120) -/
  ta : TaState
  /-- ticks of the abort penalty still to come (R120, 20_memory.md R240) -/
  abortLeft : Nat
  /-- pending (R120) -/
  pending : Pending
  /-- the request that owns the address cycle (R120) -/
  owner : Option Request
  /-- an EU request that waits for the address pipeline (20_memory.md R239, R240) -/
  euWaiting : Option Request
  /-- the committed request, whose T1 is the next tick (Tinit, 20_memory.md R223, R241) -/
  committed : Option Request
  /-- the halt pulse that is still to come (20_memory.md R244) -/
  haltPending : Option Request
  /-- the queue read the EU is held in until a byte is delivered (20_memory.md R231) -/
  queueWait : Option QueueRead
  /-- the EU holds the bus lock for the instruction in progress (20_memory.md R245) -/
  lockHeld : Bool
  /-- lock_signal (R121) -/
  lockSignal : Bool
  /-- what the transfer in progress, or the last one, has delivered to the EU: a byte, or the word assembled of two
  (20_memory.md R220, R227) -/
  delivered : Word
  /-- ticks since the last call of the fabric (20_memory.md R221) -/
  elapsed : Nat
  deriving DecidableEq, Repr

/-- Memory as the list of the bytes that differ from what an unlisted address reads as, by rising linear address
(20_memory.md R200; log 3). -/
structure Memory where
  cells : List Host.Cell
  deriving DecidableEq, Repr

/-- The parts of the address space that are no plain RAM (20_memory.md R210). -/
inductive RegionKind where
  | device | unmapped
  deriving DecidableEq, Repr

/-- A region of the memory map: its first and last linear address. -/
structure Region where
  kind : RegionKind
  first : LinAddr
  last : LinAddr
  deriving DecidableEq, Repr

/-- A range of I/O ports that a device claims: its first and last port. -/
structure PortRange where
  first : Word
  last : Word
  deriving DecidableEq, Repr

/-- The platform, parameter BUS_ORACLE (00_scope.md R8, 20_memory.md R210): its memory map (what no region covers is
RAM), the ports it claims, and its answers to the device and port reads to come; reads after the last of these answers
are answered by free values (log 7). -/
structure Platform where
  regions : List Region
  ports : List PortRange
  answers : List Byte
  deriving DecidableEq, Repr

/-- What the outside shows at one step (10_state.md R115): RESET, an edge of NMI, the interrupt controller's answer
(INTR_ORACLE, 60_exceptions.md R1031), TEST asserted (TEST_INPUT), how many code bytes the BIU fetches ahead in that
step, and which of the bytes it then holds were fetched only after the step's stores (20_memory.md R214, R249; log
12). -/
structure StepInput where
  reset : Bool
  nmi : Bool
  intr : Option Byte
  test : Bool
  prefetch : Nat
  refetch : List Bool
  deriving DecidableEq, Repr

/-- Nothing asserted but TEST, and no byte fetched ahead (log 6). -/
def StepInput.idle : StepInput :=
  { reset := false, nmi := false, intr := none, test := true, prefetch := 0, refetch := [] }

/-- One transaction of a step (20_memory.md R205, R207, R243, R244): its kind, address (a port in bits 15 to 0), data
byte, the LOCK output, and whether it is the last of its transfer (final_transfer, R228). -/
structure BusOp where
  kind : BusStatus
  addr : LinAddr
  data : Byte
  lock : Bool
  final : Bool
  deriving DecidableEq, Repr

/-- The state of the machine. -/
structure State where
  regs : Regs
  sregs : SRegs
  /-- the architectural instruction pointer (10_state.md R106) -/
  ip : Word
  flags : Flags
  eu : Eu
  biu : Biu
  mem : Memory
  plat : Platform
  cfg : Params
  /-- the inputs of the steps to come; after the last of them `StepInput.idle` (log 6) -/
  inputs : List StepInput
  /-- the inputs of the step in progress -/
  pins : StepInput
  /-- the EU's transactions of the step in progress, in order (20_memory.md R212; log 22) -/
  bus : List BusOp
  /-- the model's own: how many free values have been drawn (log 5) -/
  draws : Nat
  /-- the model's mark of a refused encoding (10_state.md R123) -/
  refused : Bool
  deriving DecidableEq, Repr

/-- The outcome of an instruction or of a step. -/
abbrev Result := Host.Outcome State Fault Refusal

/-- The nine flags at 0 (10_state.md R124). -/
def Flags.clear : Flags :=
  { cf := false, pf := false, af := false, zf := false, sf := false, tf := false, ifl := false, df := false,
    ofl := false }

/-- The BIU with an empty queue, its fetch pointer at `pc`, and an idle bus (10_state.md R124). -/
def Biu.idle (pc : Word) : Biu :=
  { queue := [], preload := none, pc := pc, fetch := .normal, status := .passive, tState := .ti, addr := 0, data := 0,
    transferSize := .byte, operandSize := .byte, transferN := 1, finalTransfer := true, waitRemaining := 0,
    nextHalf := none, discarded := false, ta := .td, abortLeft := 0, pending := .none, owner := none,
    euWaiting := none, committed := none, haltPending := none, queueWait := none, lockHeld := false,
    lockSignal := false, delivered := 0, elapsed := 0 }

/-- The EU's latches after reset (10_state.md R124). -/
def Eu.idle : Eu :=
  { halted := false, nmiLatch := false, inhibitAll := false, inhibitIntr := false, trapArmed := false,
    lockActive := false, rep := none, waiting := false, waitIp := 0, mcPc := 0, segOverride := none,
    repPrefix := none, decoding := false }

/-- The general registers at the value the model names for power-on (log 2). -/
def Regs.zero : Regs := { ax := 0, bx := 0, cx := 0, dx := 0, sp := 0, bp := 0, si := 0, di := 0 }

/-- The segment registers after reset (10_state.md R124). -/
def SRegs.reset : SRegs := { es := 0, cs := Config.resetCS, ss := 0, ds := 0 }

/-- The open parameters as the model's reset state has them (log 4). -/
def Params.initial : Params :=
  { intVectorOrder := .afterPushes, trapAfterSregLoad := false, sregLoadInhibit := true, trapWithInterrupt := .lost,
    trapAfterSoftInt := false, trapPerRepIteration := false, escMemRead := false }

/-- All of memory is RAM, every port is claimed, and no answer is scripted (log 7). -/
def Platform.initial : Platform := { regions := [], ports := [{ first := 0, last := 0xFFFF }], answers := [] }

/-- The state after reset (10_state.md R124, 70_reset_and_hazards.md R1100). -/
def State.reset : State :=
  { regs := Regs.zero, sregs := SRegs.reset, ip := Config.resetIP, flags := Flags.clear, eu := Eu.idle,
    biu := Biu.idle Config.resetIP, mem := { cells := [] }, plat := Platform.initial, cfg := Params.initial,
    inputs := [], pins := StepInput.idle, bus := [], draws := 0, refused := false }

end Sys2Proof.Machine
end

