-- ==== Sys2Proof/Machine/Ops.lean ====
section
/-! DEFINITION. The named operations every meaning is built from: registers (10_state.md R100 to R105), flags as a word
(R108, R109), free values (R112), memory and I/O accesses (20_memory.md R200 to R212), the stack (40_data_transfer.md
R410, R415), the prefetch queue (20_memory.md R229 to R231), control transfer (44_control_transfer.md R800), interrupt
entry and return (60_exceptions.md R1010, 44_control_transfer.md R838). -/

namespace Sys2Proof.Machine

/-! ### Registers -/

/-- A word register's value. -/
def Regs.get (r : Regs) : Reg16 → Word
  | .ax => r.ax
  | .cx => r.cx
  | .dx => r.dx
  | .bx => r.bx
  | .sp => r.sp
  | .bp => r.bp
  | .si => r.si
  | .di => r.di

/-- Write a word register. -/
def Regs.set (r : Regs) (n : Reg16) (v : Word) : Regs :=
  match n with
  | .ax => { r with ax := v }
  | .cx => { r with cx := v }
  | .dx => { r with dx := v }
  | .bx => { r with bx := v }
  | .sp => { r with sp := v }
  | .bp => { r with bp := v }
  | .si => { r with si := v }
  | .di => { r with di := v }

/-- The word register a byte register is a half of (10_state.md R100). -/
def Reg8.whole : Reg8 → Reg16
  | .al => .ax
  | .cl => .cx
  | .dl => .dx
  | .bl => .bx
  | .ah => .ax
  | .ch => .cx
  | .dh => .dx
  | .bh => .bx

/-- The byte register is the high half (10_state.md R100). -/
def Reg8.isHigh : Reg8 → Bool
  | .al => false
  | .cl => false
  | .dl => false
  | .bl => false
  | .ah => true
  | .ch => true
  | .dh => true
  | .bh => true

/-- A word with its low byte replaced. -/
def setLoByte (w : Word) (b : Byte) : Word := wordOf b (hiByte w)

/-- A word with its high byte replaced. -/
def setHiByte (w : Word) (b : Byte) : Word := wordOf (loByte w) b

/-- A byte register's value (10_state.md R100). -/
def Regs.get8 (r : Regs) (n : Reg8) : Byte :=
  if Reg8.isHigh n then hiByte (r.get (Reg8.whole n)) else loByte (r.get (Reg8.whole n))

/-- Write a byte register: the other half of its word register is unchanged (10_state.md R100). -/
def Regs.set8 (r : Regs) (n : Reg8) (v : Byte) : Regs :=
  r.set (Reg8.whole n)
    (if Reg8.isHigh n then setHiByte (r.get (Reg8.whole n)) v else setLoByte (r.get (Reg8.whole n)) v)

/-- A segment register's value. -/
def SRegs.get (r : SRegs) : SReg → Word
  | .es => r.es
  | .cs => r.cs
  | .ss => r.ss
  | .ds => r.ds

/-- Write a segment register. -/
def SRegs.set (r : SRegs) (n : SReg) (v : Word) : SRegs :=
  match n with
  | .es => { r with es := v }
  | .cs => { r with cs := v }
  | .ss => { r with ss := v }
  | .ds => { r with ds := v }

def State.reg16 (s : State) (n : Reg16) : Word := s.regs.get n
def State.reg8 (s : State) (n : Reg8) : Byte := s.regs.get8 n
def State.sreg (s : State) (n : SReg) : Word := s.sregs.get n
def State.setReg16 (s : State) (n : Reg16) (v : Word) : State := { s with regs := s.regs.set n v }
def State.setReg8 (s : State) (n : Reg8) (v : Byte) : State := { s with regs := s.regs.set8 n v }
def State.setSReg (s : State) (n : SReg) (v : Word) : State := { s with sregs := s.sregs.set n v }
def State.setFlags (s : State) (f : Flags) : State := { s with flags := f }

/-! ### FLAGS as a word (10_state.md R108, R109) -/

/-- The mask when the bit is set. -/
def flagBit (b : Bool) (mask : Word) : Word := if b then mask else 0

/-- The FLAGS read value: the nine flags, bits 1 and 12 to 15 read 1, bits 3 and 5 read 0 (10_state.md R109). -/
def Flags.toWord (f : Flags) : Word :=
  0xF002 ||| flagBit f.cf 0x0001 ||| flagBit f.pf 0x0004 ||| flagBit f.af 0x0010 ||| flagBit f.zf 0x0040 |||
  flagBit f.sf 0x0080 ||| flagBit f.tf 0x0100 ||| flagBit f.ifl 0x0200 ||| flagBit f.df 0x0400 |||
  flagBit f.ofl 0x0800

/-- The nine flags of a word; its other bits are ignored (10_state.md R109). -/
def Flags.ofWord (w : Word) : Flags :=
  { cf := w.getLsbD 0, pf := w.getLsbD 2, af := w.getLsbD 4, zf := w.getLsbD 6, sf := w.getLsbD 7, tf := w.getLsbD 8,
    ifl := w.getLsbD 9, df := w.getLsbD 10, ofl := w.getLsbD 11 }

/-! ### Free values (10_state.md R112, 00_scope.md R11; log 5) -/

/-- The arithmetic flags, which an instruction can leave undefined (00_scope.md R12). -/
inductive Flag where
  | cf | pf | af | zf | sf | ofl
  deriving DecidableEq, Repr

/-- Write one arithmetic flag. -/
def Flags.set (f : Flags) (n : Flag) (b : Bool) : Flags :=
  match n with
  | .cf => { f with cf := b }
  | .pf => { f with pf := b }
  | .af => { f with af := b }
  | .zf => { f with zf := b }
  | .sf => { f with sf := b }
  | .ofl => { f with ofl := b }

/-- `draw()` of one flag. -/
def State.drawFlag (s : State) (n : Flag) : State :=
  { s with flags := s.flags.set n (Config.freeBit s.draws), draws := s.draws + 1 }

/-- `draw()` of every flag of a list, a fresh free value each. -/
def State.drawFlags (s : State) : List Flag → State
  | [] => s
  | n :: ns => (s.drawFlag n).drawFlags ns

/-- The six arithmetic flags. -/
def allFlags : List Flag := [.ofl, .sf, .zf, .af, .pf, .cf]

/-- `draw()` of a word register. -/
def State.drawReg16 (s : State) (n : Reg16) : State :=
  { s with regs := s.regs.set n (Config.freeWord s.draws), draws := s.draws + 1 }

/-- `draw()` of a bit, for a choice between two values. -/
def State.drawBit (s : State) : Bool × State := (Config.freeBit s.draws, { s with draws := s.draws + 1 })

/-! ### Memory (20_memory.md R200 to R212) -/

/-- The linear address of an offset in a segment, modulo 2^20 (20_memory.md R201, R202). -/
def lin (seg off : Word) : LinAddr := (seg.setWidth 20 <<< 4) + off.setWidth 20

/-- What a byte of memory that nothing has written reads as (log 3). -/
def unlistedByte : Byte := 0xFF

/-- The byte a list of cells holds at an address. -/
def cellsRead : List Host.Cell → Nat → Byte
  | [], _ => unlistedByte
  | (k, v) :: t, a => if k = a then v else cellsRead t a

/-- Put a byte before a list of cells with greater addresses; a byte equal to the unlisted one is not listed. -/
def cellsCons (a : Nat) (v : Byte) (t : List Host.Cell) : List Host.Cell :=
  if v = unlistedByte then t else (a, v) :: t

/-- Write one byte, keeping the canonical form. -/
def cellsWrite : List Host.Cell → Nat → Byte → List Host.Cell
  | [], a, v => cellsCons a v []
  | (k, w) :: t, a, v =>
    if a < k then cellsCons a v ((k, w) :: t)
    else if a = k then cellsCons a v t
    else (k, w) :: cellsWrite t a v

/-- Every address is at least `lo` and below 2^20, they rise strictly, and no cell is equal to the unlisted byte. -/
def cellsWf : Nat → List Host.Cell → Bool
  | _, [] => true
  | lo, (k, v) :: t => decide (lo ≤ k) && decide (k < 2 ^ 20) && !(v == unlistedByte) && cellsWf (k + 1) t

/-- The canonical form of memory. -/
def Memory.wf (m : Memory) : Bool := cellsWf 0 m.cells

/-- The byte at a linear address. -/
def Memory.read (m : Memory) (a : LinAddr) : Byte := cellsRead m.cells a.toNat

/-- Write the byte at a linear address. -/
def Memory.write (m : Memory) (a : LinAddr) (v : Byte) : Memory := { cells := cellsWrite m.cells a.toNat v }

/-- The address lies in the region. -/
def Region.covers (r : Region) (a : LinAddr) : Bool := decide (r.first ≤ a) && decide (a ≤ r.last)

/-- The kind of the first region that covers the address; none for plain RAM (20_memory.md R210). -/
def Platform.kindAt (p : Platform) (a : LinAddr) : Option RegionKind :=
  (p.regions.find? fun r => r.covers a).map Region.kind

/-- The port lies in the range. -/
def PortRange.covers (r : PortRange) (a : Word) : Bool := decide (r.first ≤ a) && decide (a ≤ r.last)

/-- A device claims the port (20_memory.md R210). -/
def Platform.claims (p : Platform) (port : Word) : Bool := p.ports.any fun r => r.covers port

/-- The platform's next answer: the first of its script, a free value after the last (log 7). -/
def State.answer (s : State) : Byte × State :=
  match s.plat.answers with
  | v :: rest => (v, { s with plat := { s.plat with answers := rest } })
  | [] => (Config.freeAnswer s.draws, { s with draws := s.draws + 1 })

/-- Record a transaction of the step (20_memory.md R212; log 22); LOCK is asserted while the instruction has a LOCK
prefix (20_memory.md R245), and `final` is final_transfer (20_memory.md R228). -/
def State.record (s : State) (kind : BusStatus) (a : LinAddr) (v : Byte) (final : Bool) : State :=
  { s with bus := s.bus ++ [{ kind := kind, addr := a, data := v, lock := s.eu.lockActive, final := final }] }

/-- What a read of the address gives: RAM its byte, a device its answer, an unmapped address 0xFF (20_memory.md R210). -/
def State.memAnswer (s : State) (a : LinAddr) : Byte × State :=
  match s.plat.kindAt a with
  | none => (s.mem.read a, s)
  | some .device => s.answer
  | some .unmapped => (Config.unmappedRead, s)

/-- One MemRead transaction, the last of its transfer or not (20_memory.md R205, R228). -/
def State.memRead (s : State) (a : LinAddr) (final : Bool) : Byte × State :=
  let r := s.memAnswer a
  (r.1, r.2.record .memRead a r.1 final)

/-- One MemWrite transaction. A device keeps what it is told outside the core; an unmapped address has no effect
(20_memory.md R205, R210, R228). -/
def State.memWrite (s : State) (a : LinAddr) (v : Byte) (final : Bool) : State :=
  ({ s with mem := if s.plat.kindAt a = none then s.mem.write a v else s.mem }).record .memWrite a v final

/-- `ReadB(seg, off)` (00_scope.md R11). -/
def State.readB (s : State) (seg off : Word) : Byte × State := s.memRead (lin seg off) true

/-- `WriteB(seg, off, v)` (00_scope.md R11). -/
def State.writeB (s : State) (seg off : Word) (v : Byte) : State := s.memWrite (lin seg off) v true

/-- `ReadW(seg, off)`: low byte first, the offset wraps in the segment (00_scope.md R11, 20_memory.md R203 to R205). -/
def State.readW (s : State) (seg off : Word) : Word × State :=
  let lo := s.memRead (lin seg off) false
  let hi := lo.2.memRead (lin seg (off + 1)) true
  (wordOf lo.1 hi.1, hi.2)

/-- `WriteW(seg, off, v)` (00_scope.md R11, 20_memory.md R203 to R205). -/
def State.writeW (s : State) (seg off : Word) (v : Word) : State :=
  (s.memWrite (lin seg off) (loByte v) false).memWrite (lin seg (off + 1)) (hiByte v) true

/-! ### I/O (20_memory.md R207, R210) -/

/-- The address of a port on the bus: bits 19 to 16 are 0 (20_memory.md R227). -/
def portAddr (port : Word) : LinAddr := port.setWidth 20

/-- One IoRead transaction: a device's answer, 0xFF from a port no device claims (20_memory.md R207, R210). -/
def State.ioRead (s : State) (port : Word) (final : Bool) : Byte × State :=
  let r := if s.plat.claims port then s.answer else (Config.unmappedRead, s)
  (r.1, r.2.record .ioRead (portAddr port) r.1 final)

/-- One IoWrite transaction; what a device does with it lies outside the core (20_memory.md R207, R210). -/
def State.ioWrite (s : State) (port : Word) (v : Byte) (final : Bool) : State :=
  s.record .ioWrite (portAddr port) v final

/-- `IoRead(port, 1)` (00_scope.md R11). -/
def State.ioReadB (s : State) (port : Word) : Byte × State := s.ioRead port true

/-- `IoWrite(port, 1, v)` (00_scope.md R11). -/
def State.ioWriteB (s : State) (port : Word) (v : Byte) : State := s.ioWrite port v true

/-- `IoRead(port, 2)`: `port`, then `port + 1` modulo 2^16 (20_memory.md R207). -/
def State.ioReadW (s : State) (port : Word) : Word × State :=
  let lo := s.ioRead port false
  let hi := lo.2.ioRead (port + 1) true
  (wordOf lo.1 hi.1, hi.2)

/-- `IoWrite(port, 2, v)` (20_memory.md R207). -/
def State.ioWriteW (s : State) (port : Word) (v : Word) : State :=
  (s.ioWrite port (loByte v) false).ioWrite (port + 1) (hiByte v) true

/-! ### The stack (40_data_transfer.md R410, R415) -/

/-- `Push(v)`. -/
def State.push (s : State) (v : Word) : State :=
  (s.setReg16 .sp (s.regs.sp - 2)).writeW s.sregs.ss (s.regs.sp - 2) v

/-- `Pop()`. -/
def State.pop (s : State) : Word × State :=
  let r := s.readW s.sregs.ss s.regs.sp
  (r.1, r.2.setReg16 .sp (r.2.regs.sp + 2))

/-! ### The prefetch queue and control transfer -/

/-- The request is a code fetch. -/
def Request.isCode (r : Option Request) : Bool :=
  match r with
  | some q => q.kind == .codeFetch
  | none => false

/-- A code fetch has had its T1 and not delivered its byte (20_memory.md R229, R248). -/
def Biu.codeInFlight (b : Biu) : Bool :=
  b.status == .codeFetch && (b.tState == .t2 || b.tState == .t3 || b.tState == .tw || b.tState == .t4)

/-- The bytes of the instruction stream the BIU holds, the preload slot first (20_memory.md R231). -/
def Biu.held (b : Biu) : List Byte := b.preload.toList ++ b.queue

/-- A code-fetch address cycle is in Tr, Ts or T0 (20_memory.md R230, R238, R240). -/
def Biu.codeAddressing (b : Biu) : Bool :=
  Request.isCode b.owner && (b.ta == .tr || b.ta == .ts || b.ta == .t0)

/-- A code-fetch address cycle in Tr, Ts or T0 is cancelled without penalty (20_memory.md R230). -/
def Biu.cancelCode (b : Biu) : Biu :=
  { b with ta := if b.codeAddressing then .td else b.ta, owner := if b.codeAddressing then none else b.owner }

/-- `queue_flush()` (20_memory.md R230): queue and preload empty, PC at the target, fetch state Normal, a code fetch
in progress (or one whose T1 is this tick) marked as discarded, a code-fetch address cycle cancelled without penalty
(log 20). -/
def Biu.flush (b : Biu) (ip : Word) : Biu :=
  { b.cancelCode with
    queue := []
    preload := none
    pc := ip
    fetch := .normal
    discarded := b.discarded || b.codeInFlight || Request.isCode b.committed }

/-- `Jump(ip)` (44_control_transfer.md R800). -/
def State.jump (s : State) (ip : Word) : State := { s with ip := ip, biu := s.biu.flush ip }

/-- `Jump(cs, ip)` (44_control_transfer.md R800). -/
def State.jumpFar (s : State) (cs ip : Word) : State := (s.setSReg .cs cs).jump ip

/-! ### Interrupt entry and return (60_exceptions.md R1001, R1010 to R1012) -/

/-- Read entry n of the vector table: the new IP at 4n, the new CS at 4n + 2, in segment 0 (60_exceptions.md R1001). -/
def State.readVector (s : State) (n : Byte) : (Word × Word) × State :=
  let ip := s.readW 0 (zext16 n <<< 2)
  let cs := ip.2.readW 0 ((zext16 n <<< 2) + 2)
  ((cs.1, ip.1), cs.2)

/-- The three pushes of an interrupt entry, IF and TF cleared after the first (60_exceptions.md R1010). -/
def State.pushFrame (s : State) (ret : Word) : State :=
  let s1 := s.push s.flags.toWord
  let s2 := s1.setFlags { s1.flags with ifl := false, tf := false }
  (s2.push s2.sregs.cs).push ret

/-- The entry of an interrupt of type n with return offset `ret`, up to the latches that R1010 treats by who makes the
entry (60_exceptions.md R1010). INT_VECTOR_ORDER says when the vector is read. -/
def State.enterInterrupt (s : State) (n : Byte) (ret : Word) : State :=
  let t :=
    match s.cfg.intVectorOrder with
    | .afterPushes =>
      let v := (s.pushFrame ret).readVector n
      v.2.jumpFar v.1.1 v.1.2
    | .beforePushes =>
      let v := s.readVector n
      (v.2.pushFrame ret).jumpFar v.1.1 v.1.2
  { t with eu := { t.eu with rep := none, waiting := false, halted := false } }

/-- `raise Interrupt(n)` by the instruction in progress: the return offset is that of the next instruction, and an armed
trap survives if TRAP_AFTER_SOFT_INT says so (60_exceptions.md R1010 to R1012). -/
def State.softInterrupt (s : State) (n : Byte) : State :=
  let t := s.enterInterrupt n s.ip
  { t with eu := { t.eu with trapArmed := t.eu.trapArmed && t.cfg.trapAfterSoftInt } }

/-- The return offset at a boundary: that of the next instruction; while waiting `wait_ip`; between iterations of a
repeated string instruction `resume_ip` (60_exceptions.md R1011). -/
def State.returnIp (s : State) : Word :=
  if s.eu.waiting then s.eu.waitIp
  else
    match s.eu.rep with
    | some r => r.resumeIp
    | none => s.ip

/-- The LOCK of a repetition in progress is released (45_processor_control.md R910; log 13). -/
def State.releaseLock (s : State) : State := { s with eu := { s.eu with lockActive := false } }

/-- The entry of NMI, INTR or the single-step trap at a boundary (60_exceptions.md R1010, R1011). It ends an interrupted
repetition, whose LOCK holds until the interrupt is taken (45_processor_control.md R910) and so is released before the
entry's pushes and vector reads (20_memory.md R245; log 13). -/
def State.boundaryInterrupt (s : State) (n : Byte) : State :=
  let t := s.releaseLock.enterInterrupt n s.returnIp
  { t with eu := { t.eu with trapArmed := false } }

/-- The two interrupt-acknowledge cycles, like the halves of a word, LOCK asserted across both; the vector is the second's
byte, the first's byte and the addresses are free (20_memory.md R227, R243; log 21). -/
def State.intAck (s : State) (v : Byte) : State :=
  { s with
    bus := s.bus ++
      [{ kind := .intAck, addr := Config.freeIntAckAddr s.draws, data := Config.freeAnswer (s.draws + 1), lock := true,
         final := false },
       { kind := .intAck, addr := Config.freeIntAckAddr (s.draws + 2), data := v, lock := true, final := true }]
    draws := s.draws + 3 }

/-- Return from an interrupt: pop IP, CS and FLAGS, then jump (44_control_transfer.md R838). -/
def State.interruptReturn (s : State) : State :=
  let off := s.pop
  let seg := off.2.pop
  let f := seg.2.pop
  (f.2.setFlags (Flags.ofWord f.1)).jumpFar seg.1 off.1

end Sys2Proof.Machine
end

