-- ==== Sys2Proof/Machine/Boundary.lean ====
section
/-! DEFINITION. The boundary check: which interrupt is taken between two instructions, two iterations of a repeated
string instruction, or while halted or waiting (60_exceptions.md R1020 to R1052). -/

namespace Sys2Proof.Machine

/-- The single-step trap waits for the end of a repeated string instruction (60_exceptions.md R1051). -/
def State.trapDeferred (s : State) : Bool := s.eu.rep.isSome && !s.cfg.trapPerRepIteration

/-- A single-step trap is due at this boundary (60_exceptions.md R1051). -/
def State.trapDue (s : State) : Bool :=
  s.eu.trapArmed && (!s.eu.inhibitAll || s.cfg.trapAfterSregLoad) && !s.trapDeferred

/-- NMI is recognised at this boundary (60_exceptions.md R1020, R1050, R1051). -/
def State.nmiDue (s : State) : Bool := s.eu.nmiLatch && !s.eu.inhibitAll

/-- The answer of the interrupt controller, which is asked where INTR is recognised (60_exceptions.md R1030, R1031,
R1050, R1051). -/
def State.intrDue (s : State) : Option Byte :=
  if s.flags.ifl && !s.eu.inhibitAll && !s.eu.inhibitIntr then s.pins.intr else none

/-- The shadows end at this boundary, and so does an armed trap unless it is deferred (60_exceptions.md R1051). -/
def State.clearShadows (s : State) : State :=
  { s with
    eu :=
      { s.eu with inhibitAll := false, inhibitIntr := false, trapArmed := s.eu.trapArmed && s.trapDeferred } }

/-- The single-step trap is taken (60_exceptions.md R1040). -/
def State.takeTrap (s : State) : State := s.boundaryInterrupt 1

/-- NMI is taken: its latch is cleared (60_exceptions.md R1020). -/
def State.takeNmi (s : State) : State :=
  State.boundaryInterrupt { s with eu := { s.eu with nmiLatch := false } } 2

/-- INTR is taken: the acknowledge cycles, then the entry of the type they read (60_exceptions.md R1030). -/
def State.takeIntr (s : State) (v : Byte) : State := (s.intAck v).boundaryInterrupt v

/-- The interrupts that a boundary can enter, INTR with the type its acknowledge cycles read. -/
inductive Entry where
  | nmi
  | intr (v : Byte)
  | trap
  deriving DecidableEq, Repr

/-- An interrupt is taken. -/
def State.take (s : State) : Entry → State
  | .nmi => s.takeNmi
  | .intr v => s.takeIntr v
  | .trap => s.takeTrap

/-- The entries, in order, of an external interrupt with which a single-step trap may be due, as TRAP_WITH_INTERRUPT says
(60_exceptions.md R1051; log 28). -/
def State.withTrap (s : State) (e : Entry) : List Entry :=
  if s.trapDue then
    match s.cfg.trapWithInterrupt with
    | .lost => [e]
    | .trapFirst => [.trap]
    | .trapAfterEntry => [e, .trap]
  else [e]

/-- The interrupts entered at this boundary, in order (60_exceptions.md R1051). -/
def State.entriesDue (s : State) : List Entry :=
  if s.nmiDue then s.withTrap .nmi
  else
    match s.intrDue with
    | some v => s.withTrap (.intr v)
    | none => if s.trapDue then [.trap] else []

/-- `boundary_check()`: whether an interrupt was taken, and the state after it (60_exceptions.md R1051). -/
def State.boundaryCheck (s : State) : Bool × State :=
  (!s.entriesDue.isEmpty, s.entriesDue.foldl State.take s.clearShadows)

end Sys2Proof.Machine
end

