-- ==== Sys2Proof/Machine/Flags.lean ====
section
/-! DEFINITION. The ALU and its flags (41_arithmetic.md R501 to R504, 42_logic_shift.md R600, R606 to R614,
44_control_transfer.md R814), for both widths at once: `w` is 8 or 16. -/

namespace Sys2Proof.Machine

/-! ### Sign, zero, parity (41_arithmetic.md R501, R502) -/

/-- PF: the byte has an even number of 1 bits (41_arithmetic.md R501). -/
def parity (b : Byte) : Bool :=
  !(b.getLsbD 0 ^^ b.getLsbD 1 ^^ b.getLsbD 2 ^^ b.getLsbD 3 ^^ b.getLsbD 4 ^^ b.getLsbD 5 ^^ b.getLsbD 6 ^^
    b.getLsbD 7)

/-- `SZP(r, w)` (41_arithmetic.md R502). -/
def szp {w : Nat} (f : Flags) (r : BitVec w) : Flags :=
  { f with sf := r.msb, zf := r == 0, pf := parity (r.setWidth 8) }

/-! ### Addition and subtraction (41_arithmetic.md R503, R504) -/

/-- The sum modulo 2^w. -/
def addResult {w : Nat} (a b : BitVec w) (c : Bool) : BitVec w := BitVec.ofNat w (a.toNat + b.toNat + c.toNat)

/-- The flags of an addition (41_arithmetic.md R503). -/
def addFlags {w : Nat} (f : Flags) (a b : BitVec w) (c : Bool) : Flags :=
  let r := addResult a b c
  szp
    { f with
      cf := decide (2 ^ w ≤ a.toNat + b.toNat + c.toNat)
      ofl := (a.msb == b.msb) && (r.msb != a.msb)
      af := decide (0xF < a.toNat % 16 + b.toNat % 16 + c.toNat) } r

/-- The difference modulo 2^w. -/
def subResult {w : Nat} (a b : BitVec w) (c : Bool) : BitVec w := a - b - BitVec.ofNat w c.toNat

/-- The flags of a subtraction (41_arithmetic.md R504). -/
def subFlags {w : Nat} (f : Flags) (a b : BitVec w) (c : Bool) : Flags :=
  let r := subResult a b c
  szp
    { f with
      cf := decide (a.toNat < b.toNat + c.toNat)
      ofl := (a.msb != b.msb) && (r.msb != a.msb)
      af := decide (a.toNat % 16 < b.toNat % 16 + c.toNat) } r

/-- The flags of a logic operation, up to AF, which is drawn (42_logic_shift.md R600). -/
def logicFlags {w : Nat} (f : Flags) (r : BitVec w) : Flags := szp { f with cf := false, ofl := false } r

/-! ### The binary operations -/

/-- The binary ALU instructions (41_arithmetic.md R500) and TEST (42_logic_shift.md R604). -/
inductive AluOp where
  | add | or | adc | sbb | and | sub | xor | cmp | test
  deriving DecidableEq, Repr

/-- The instruction writes its destination (41_arithmetic.md R500, 42_logic_shift.md R604). -/
def AluOp.writes : AluOp → Bool
  | .cmp => false
  | .test => false
  | _ => true

/-- The result of an operation with carry in `c` (41_arithmetic.md R503 to R509, 42_logic_shift.md R600). -/
def AluOp.result {w : Nat} (op : AluOp) (a b : BitVec w) (c : Bool) : BitVec w :=
  match op with
  | .add => addResult a b false
  | .adc => addResult a b c
  | .sub => subResult a b false
  | .sbb => subResult a b c
  | .cmp => subResult a b false
  | .and => a &&& b
  | .or => a ||| b
  | .xor => a ^^^ b
  | .test => a &&& b

/-- The flags of an operation, up to the AF of the logic operations (41_arithmetic.md R503 to R509,
42_logic_shift.md R600). -/
def AluOp.flags {w : Nat} (op : AluOp) (f : Flags) (a b : BitVec w) : Flags :=
  match op with
  | .add => addFlags f a b false
  | .adc => addFlags f a b f.cf
  | .sub => subFlags f a b false
  | .sbb => subFlags f a b f.cf
  | .cmp => subFlags f a b false
  | .and => logicFlags f (a &&& b)
  | .or => logicFlags f (a ||| b)
  | .xor => logicFlags f (a ^^^ b)
  | .test => logicFlags f (a &&& b)

/-- The operation leaves AF undefined (42_logic_shift.md R600). -/
def AluOp.drawsAf : AluOp → Bool
  | .and => true
  | .or => true
  | .xor => true
  | .test => true
  | _ => false

/-- Write the flags of a binary operation; AF of a logic operation is a draw (42_logic_shift.md R600). -/
def State.aluFlags {w : Nat} (s : State) (op : AluOp) (a b : BitVec w) : State :=
  let t := s.setFlags (op.flags s.flags a b)
  if op.drawsAf then t.drawFlag .af else t

/-- The flags of INC: those of an addition of 1, CF kept (41_arithmetic.md R510). -/
def incFlags {w : Nat} (f : Flags) (a : BitVec w) : Flags := { addFlags f a 1 false with cf := f.cf }

/-- The flags of DEC: those of a subtraction of 1, CF kept (41_arithmetic.md R511). -/
def decFlags {w : Nat} (f : Flags) (a : BitVec w) : Flags := { subFlags f a 1 false with cf := f.cf }

/-! ### Shifts and rotates (42_logic_shift.md R606 to R614) -/

/-- The operations of group 2 (42_logic_shift.md R606). -/
inductive ShiftOp where
  | rol | ror | rcl | rcr | shl | shr | sar
  deriving DecidableEq, Repr

/-- SHL, SHR and SAR, which write SF, ZF, PF and leave AF undefined (42_logic_shift.md R607). -/
def ShiftOp.isShift : ShiftOp → Bool
  | .shl => true
  | .shr => true
  | .sar => true
  | _ => false

/-- A vector whose bit 0 is `b` and whose other bits are 0. -/
def lowBit (w : Nat) (b : Bool) : BitVec w := (BitVec.ofBool b).setWidth w

/-- A vector whose bit w - 1 is `b` and whose other bits are 0. -/
def highBit (w : Nat) (b : Bool) : BitVec w := lowBit w b <<< (w - 1)

/-- One bit step: the new operand and the new CF (42_logic_shift.md R608 to R614). -/
def ShiftOp.step {w : Nat} (op : ShiftOp) (v : BitVec w) (c : Bool) : BitVec w × Bool :=
  match op with
  | .rol => ((v <<< 1) ||| lowBit w v.msb, v.msb)
  | .ror => ((v >>> 1) ||| highBit w (v.getLsbD 0), v.getLsbD 0)
  | .rcl => ((v <<< 1) ||| lowBit w c, v.msb)
  | .rcr => ((v >>> 1) ||| highBit w c, v.getLsbD 0)
  | .shl => (v <<< 1, v.msb)
  | .shr => (v >>> 1, v.getLsbD 0)
  | .sar => ((v >>> 1) ||| highBit w v.msb, v.getLsbD 0)

/-- The step applied n times (42_logic_shift.md R607). -/
def ShiftOp.steps {w : Nat} (op : ShiftOp) : Nat → BitVec w → Bool → BitVec w × Bool
  | 0, v, c => (v, c)
  | n + 1, v, c => op.steps n (op.step v c).1 (op.step v c).2

/-- OF after a count of 1: `v` the operand before, `r` the result, `c` the new CF (42_logic_shift.md R608 to R614). -/
def ShiftOp.overflow {w : Nat} (op : ShiftOp) (v r : BitVec w) (c : Bool) : Bool :=
  match op with
  | .rol => r.msb ^^ c
  | .ror => r.msb ^^ r.getLsbD (w - 2)
  | .rcl => r.msb ^^ c
  | .rcr => r.msb ^^ r.getLsbD (w - 2)
  | .shl => r.msb ^^ c
  | .shr => v.msb
  | .sar => false

/-- Write the flags of a shift or rotate by a count n other than 0 (42_logic_shift.md R607): CF, then OF (a draw unless
n = 1), then for the shifts SF, ZF, PF and a draw of AF. -/
def State.shiftFlags {w : Nat} (s : State) (op : ShiftOp) (n : Nat) (v : BitVec w) : State :=
  let r := op.steps n v s.flags.cf
  let s1 := s.setFlags { s.flags with cf := r.2 }
  let s2 := if n = 1 then s1.setFlags { s1.flags with ofl := op.overflow v r.1 r.2 } else s1.drawFlag .ofl
  if op.isShift then (s2.setFlags (szp s2.flags r.1)).drawFlag .af else s2

/-! ### Conditions (44_control_transfer.md R814) -/

/-- The sixteen conditions, in the order of their codes. -/
inductive Cond where
  | o | no | b | ae | e | ne | be | a | s | ns | p | np | l | ge | le | g
  deriving DecidableEq, Repr

/-- The condition holds (44_control_transfer.md R814). -/
def Cond.holds (c : Cond) (f : Flags) : Bool :=
  match c with
  | .o => f.ofl
  | .no => !f.ofl
  | .b => f.cf
  | .ae => !f.cf
  | .e => f.zf
  | .ne => !f.zf
  | .be => f.cf || f.zf
  | .a => !f.cf && !f.zf
  | .s => f.sf
  | .ns => !f.sf
  | .p => f.pf
  | .np => !f.pf
  | .l => f.sf != f.ofl
  | .ge => f.sf == f.ofl
  | .le => f.zf || (f.sf != f.ofl)
  | .g => !f.zf && (f.sf == f.ofl)

end Sys2Proof.Machine
end

