-- ==== Sys2Proof/Machine/Operands.lean ====
section
/-! DEFINITION. The operands of an instruction: effective addresses and segments (30_encoding.md R306 to R308), reading
and writing an r/m operand (R317), and the operand forms of the shared operations (41_arithmetic.md R500,
42_logic_shift.md R606). -/

namespace Sys2Proof.Machine

/-! ### Effective addresses -/

/-- The displacement as a word (30_encoding.md R307). -/
def dispValue : Disp → Word
  | .none => 0
  | .d8 d => sext16 d
  | .d16 d => d

/-- The register part of an effective address (30_encoding.md R306). -/
def baseValue (r : Regs) : EABase → Word
  | .bxsi => r.bx + r.si
  | .bxdi => r.bx + r.di
  | .bpsi => r.bp + r.si
  | .bpdi => r.bp + r.di
  | .si => r.si
  | .di => r.di
  | .bp => r.bp
  | .bx => r.bx

/-- The effective address, modulo 2^16 (30_encoding.md R306, R307). -/
def eaOffset (r : Regs) : EA → Word
  | .direct off => off
  | .based b d => baseValue r b + dispValue d

/-- The default segment of a memory operand: SS for the forms with BP, else DS (30_encoding.md R306). -/
def eaDefaultSeg : EA → SReg
  | .direct _ => .ds
  | .based .bpsi _ => .ss
  | .based .bpdi _ => .ss
  | .based .bp _ => .ss
  | .based _ _ => .ds

/-- The segment register of an operand: the last override, or the default (30_encoding.md R308). -/
def State.segReg (s : State) (dflt : SReg) : SReg := s.eu.segOverride.getD dflt

/-- SEG of an operand whose default is `dflt`, as a value. -/
def State.segValue (s : State) (dflt : SReg) : Word := s.sreg (s.segReg dflt)

/-- EA of a memory operand in this state. -/
def State.ea (s : State) (a : EA) : Word := eaOffset s.regs a

/-- SEG of a memory operand in this state, as a value. -/
def State.eaSeg (s : State) (a : EA) : Word := s.segValue (eaDefaultSeg a)

/-! ### r/m operands (30_encoding.md R317) -/

/-- `read E`, a byte. -/
def State.readRM8 (s : State) (m : RM Reg8) : Byte × State :=
  match m with
  | .reg r => (s.reg8 r, s)
  | .mem a => s.readB (s.eaSeg a) (s.ea a)

/-- `read E`, a word. -/
def State.readRM16 (s : State) (m : RM Reg16) : Word × State :=
  match m with
  | .reg r => (s.reg16 r, s)
  | .mem a => s.readW (s.eaSeg a) (s.ea a)

/-- `write E <- v`, a byte. -/
def State.writeRM8 (s : State) (m : RM Reg8) (v : Byte) : State :=
  match m with
  | .reg r => s.setReg8 r v
  | .mem a => s.writeB (s.eaSeg a) (s.ea a) v

/-- `write E <- v`, a word. -/
def State.writeRM16 (s : State) (m : RM Reg16) (v : Word) : State :=
  match m with
  | .reg r => s.setReg16 r v
  | .mem a => s.writeW (s.eaSeg a) (s.ea a) v

/-- Read a far pointer: the offset word at EA, the segment word at EA + 2 (40_data_transfer.md R425); the segment, then
the offset. -/
def State.readFar (s : State) (a : EA) : (Word × Word) × State :=
  let off := s.readW (s.eaSeg a) (s.ea a)
  let seg := off.2.readW (s.eaSeg a) (s.ea a + 2)
  ((seg.1, off.1), seg.2)

/-! ### Binary ALU forms (41_arithmetic.md R500) -/

/-- op Eb,src where the source value is taken after E is read. -/
def aluRM8 (op : AluOp) (m : RM Reg8) (src : State → Byte) (s : State) : State :=
  let a := s.readRM8 m
  let b := src a.2
  let t := a.2.aluFlags op a.1 b
  if op.writes then t.writeRM8 m (op.result a.1 b s.flags.cf) else t

/-- op Ew,src where the source value is taken after E is read. -/
def aluRM16 (op : AluOp) (m : RM Reg16) (src : State → Word) (s : State) : State :=
  let a := s.readRM16 m
  let b := src a.2
  let t := a.2.aluFlags op a.1 b
  if op.writes then t.writeRM16 m (op.result a.1 b s.flags.cf) else t

/-- op Eb,Gb. -/
def aluEbGb (op : AluOp) (m : RM Reg8) (g : Reg8) (s : State) : State := aluRM8 op m (fun t => t.reg8 g) s

/-- op Ew,Gw. -/
def aluEwGw (op : AluOp) (m : RM Reg16) (g : Reg16) (s : State) : State := aluRM16 op m (fun t => t.reg16 g) s

/-- op Eb,Ib. -/
def aluEbIb (op : AluOp) (m : RM Reg8) (imm : Byte) (s : State) : State := aluRM8 op m (fun _ => imm) s

/-- op Ew,Iw. -/
def aluEwIw (op : AluOp) (m : RM Reg16) (imm : Word) (s : State) : State := aluRM16 op m (fun _ => imm) s

/-- op Gb,Eb. -/
def aluGbEb (op : AluOp) (g : Reg8) (m : RM Reg8) (s : State) : State :=
  let b := s.readRM8 m
  let a := b.2.reg8 g
  let t := b.2.aluFlags op a b.1
  if op.writes then t.setReg8 g (op.result a b.1 s.flags.cf) else t

/-- op Gw,Ew. -/
def aluGwEw (op : AluOp) (g : Reg16) (m : RM Reg16) (s : State) : State :=
  let b := s.readRM16 m
  let a := b.2.reg16 g
  let t := b.2.aluFlags op a b.1
  if op.writes then t.setReg16 g (op.result a b.1 s.flags.cf) else t

/-- op AL,Ib. -/
def aluALIb (op : AluOp) (imm : Byte) (s : State) : State := aluRM8 op (.reg .al) (fun _ => imm) s

/-- op AX,Iw. -/
def aluAXIw (op : AluOp) (imm : Word) (s : State) : State := aluRM16 op (.reg .ax) (fun _ => imm) s

/-! ### Unary forms -/

/-- Read Eb, write flags, write Eb. -/
def unaryRM8 (result : Byte → Byte) (flags : Flags → Byte → Flags) (m : RM Reg8) (s : State) : State :=
  let a := s.readRM8 m
  (a.2.setFlags (flags a.2.flags a.1)).writeRM8 m (result a.1)

/-- Read Ew, write flags, write Ew. -/
def unaryRM16 (result : Word → Word) (flags : Flags → Word → Flags) (m : RM Reg16) (s : State) : State :=
  let a := s.readRM16 m
  (a.2.setFlags (flags a.2.flags a.1)).writeRM16 m (result a.1)

/-! ### Shift forms (42_logic_shift.md R606, R607) -/

/-- Shift or rotate Eb by n: a count of 0 only reads. -/
def shiftRM8 (op : ShiftOp) (n : Nat) (m : RM Reg8) (s : State) : State :=
  let v := s.readRM8 m
  if n = 0 then v.2 else (v.2.shiftFlags op n v.1).writeRM8 m (op.steps n v.1 s.flags.cf).1

/-- Shift or rotate Ew by n: a count of 0 only reads. -/
def shiftRM16 (op : ShiftOp) (n : Nat) (m : RM Reg16) (s : State) : State :=
  let v := s.readRM16 m
  if n = 0 then v.2 else (v.2.shiftFlags op n v.1).writeRM16 m (op.steps n v.1 s.flags.cf).1

/-- The count in CL, all 8 bits of it (42_logic_shift.md R606). -/
def State.countCL (s : State) : Nat := (s.reg8 .cl).toNat

end Sys2Proof.Machine
end

