-- ==== Sys2Proof/Machine/Arithmetic.lean ====
section
/-! DEFINITION. The arithmetic instructions (41_arithmetic.md R500 to R526). -/

namespace Sys2Proof.Machine

/-! ### INC, DEC, NEG (41_arithmetic.md R510 to R512) -/

def inc8 (m : RM Reg8) (s : State) : State := unaryRM8 (fun a => addResult a 1 false) incFlags m s
def inc16 (m : RM Reg16) (s : State) : State := unaryRM16 (fun a => addResult a 1 false) incFlags m s
def dec8 (m : RM Reg8) (s : State) : State := unaryRM8 (fun a => subResult a 1 false) decFlags m s
def dec16 (m : RM Reg16) (s : State) : State := unaryRM16 (fun a => subResult a 1 false) decFlags m s
def neg8 (m : RM Reg8) (s : State) : State :=
  unaryRM8 (fun a => subResult 0 a false) (fun f a => subFlags f 0 a false) m s
def neg16 (m : RM Reg16) (s : State) : State :=
  unaryRM16 (fun a => subResult 0 a false) (fun f a => subFlags f 0 a false) m s

/-! ### Multiply (41_arithmetic.md R513, R514) -/

/-- CF and OF say whether the upper half is significant; SF, ZF, AF and PF are undefined. -/
def State.mulFlags (s : State) (c : Bool) : State :=
  (s.setFlags { s.flags with cf := c, ofl := c }).drawFlags [.sf, .zf, .af, .pf]

/-- DX:AX <- a 32-bit product. -/
def State.setDXAX (s : State) (p : BitVec 32) : State :=
  (s.setReg16 .dx (p.extractLsb' 16 16)).setReg16 .ax (p.extractLsb' 0 16)

def mul8 (m : RM Reg8) (s : State) : State :=
  let e := s.readRM8 m
  let p := zext16 (s.reg8 .al) * zext16 e.1
  (e.2.setReg16 .ax p).mulFlags (hiByte p != 0)

def mul16 (m : RM Reg16) (s : State) : State :=
  let e := s.readRM16 m
  let p := s.regs.ax.setWidth 32 * e.1.setWidth 32
  (e.2.setDXAX p).mulFlags (p.extractLsb' 16 16 != 0)

def imul8 (m : RM Reg8) (s : State) : State :=
  let e := s.readRM8 m
  let p := sext16 (s.reg8 .al) * sext16 e.1
  (e.2.setReg16 .ax p).mulFlags (p != sext16 (loByte p))

def imul16 (m : RM Reg16) (s : State) : State :=
  let e := s.readRM16 m
  let p := s.regs.ax.signExtend 32 * e.1.signExtend 32
  (e.2.setDXAX p).mulFlags (p != (p.extractLsb' 0 16).signExtend 32)

/-! ### Divide (41_arithmetic.md R515, R516) -/

/-- Quotient and remainder of an unsigned division of a dividend of twice the width; none for a divide error. -/
def divide (w : Nat) (n d : Nat) : Option (BitVec w × BitVec w) :=
  if d = 0 then none
  else if n / d < 2 ^ w then some (BitVec.ofNat w (n / d), BitVec.ofNat w (n % d))
  else none

/-- Quotient, rounded toward zero, and remainder of a signed division; none for a divide error: the quotient must lie
within -(2^(w-1) - 1) and 2^(w-1) - 1 (41_arithmetic.md R516). -/
def signedDivide (w : Nat) (n d : Int) : Option (BitVec w × BitVec w) :=
  if d = 0 then none
  else if n.tdiv d < 2 ^ (w - 1) ∧ -(2 ^ (w - 1)) < n.tdiv d then
    some (BitVec.ofInt w (n.tdiv d), BitVec.ofInt w (n - n.tdiv d * d))
  else none

/-- AL and AH from a byte division; on an error AX and the flags are free values and interrupt 0 is entered. -/
def State.finishDivide8 (s : State) (r : Option (Byte × Byte)) : State :=
  match r with
  | some (q, m) => (s.setReg16 .ax (wordOf q m)).drawFlags allFlags
  | none => ((s.drawReg16 .ax).drawFlags allFlags).softInterrupt 0

/-- AX and DX from a word division; on an error AX, DX and the flags are free values and interrupt 0 is entered. -/
def State.finishDivide16 (s : State) (r : Option (Word × Word)) : State :=
  match r with
  | some (q, m) => ((s.setReg16 .ax q).setReg16 .dx m).drawFlags allFlags
  | none => (((s.drawReg16 .ax).drawReg16 .dx).drawFlags allFlags).softInterrupt 0

/-- DX:AX as 32 bits (00_scope.md R9). -/
def State.dxax (s : State) : BitVec 32 := s.regs.dx ++ s.regs.ax

def div8 (m : RM Reg8) (s : State) : State :=
  let e := s.readRM8 m
  e.2.finishDivide8 (divide 8 s.regs.ax.toNat e.1.toNat)

def div16 (m : RM Reg16) (s : State) : State :=
  let e := s.readRM16 m
  e.2.finishDivide16 (divide 16 s.dxax.toNat e.1.toNat)

def idiv8 (m : RM Reg8) (s : State) : State :=
  let e := s.readRM8 m
  e.2.finishDivide8 (signedDivide 8 s.regs.ax.toInt e.1.toInt)

def idiv16 (m : RM Reg16) (s : State) : State :=
  let e := s.readRM16 m
  e.2.finishDivide16 (signedDivide 16 s.dxax.toInt e.1.toInt)

/-! ### Decimal adjust (41_arithmetic.md R517 to R522) -/

/-- The low digit of AL asks for an adjustment. -/
def State.lowAdjust (s : State) : Bool := decide (9 < (s.reg8 .al &&& 0x0F)) || s.flags.af

/-- AAA (41_arithmetic.md R517). -/
def State.aaa (s : State) : State :=
  let adj := s.lowAdjust
  let al := if adj then s.reg8 .al + 6 else s.reg8 .al
  let ah := if adj then s.reg8 .ah + 1 else s.reg8 .ah
  ((s.setReg16 .ax (wordOf (al &&& 0x0F) ah)).setFlags { s.flags with af := adj, cf := adj }).drawFlags
    [.ofl, .sf, .zf, .pf]

/-- AAS (41_arithmetic.md R518). -/
def State.aas (s : State) : State :=
  let adj := s.lowAdjust
  let al := if adj then s.reg8 .al - 6 else s.reg8 .al
  let ah := if adj then s.reg8 .ah - 1 else s.reg8 .ah
  ((s.setReg16 .ax (wordOf (al &&& 0x0F) ah)).setFlags { s.flags with af := adj, cf := adj }).drawFlags
    [.ofl, .sf, .zf, .pf]

/-- The high digit of the old AL asks for an adjustment (41_arithmetic.md R519, R520). -/
def State.highAdjust (s : State) : Bool := decide (0x99 < s.reg8 .al) || s.flags.cf

/-- DAA (41_arithmetic.md R519). -/
def State.daa (s : State) : State :=
  let low := s.lowAdjust
  let high := s.highAdjust
  let al1 := if low then s.reg8 .al + 0x06 else s.reg8 .al
  let al2 := if high then al1 + 0x60 else al1
  ((s.setReg8 .al al2).setFlags (szp { s.flags with af := low, cf := high } al2)).drawFlag .ofl

/-- DAS (41_arithmetic.md R520). -/
def State.das (s : State) : State :=
  let low := s.lowAdjust
  let high := s.highAdjust
  let al1 := if low then s.reg8 .al - 0x06 else s.reg8 .al
  let al2 := if high then al1 - 0x60 else al1
  let borrow := low && (s.flags.cf || decide (s.reg8 .al < 6))
  ((s.setReg8 .al al2).setFlags (szp { s.flags with af := low, cf := high || borrow } al2)).drawFlag .ofl

/-- AAM: base 0 is a divide error with AX unchanged (41_arithmetic.md R521). -/
def State.aam (s : State) (imm : Byte) : State :=
  if imm = 0 then (s.drawFlags allFlags).softInterrupt 0
  else
    let q := s.reg8 .al / imm
    let r := s.reg8 .al % imm
    ((s.setReg16 .ax (wordOf r q)).setFlags (szp s.flags r)).drawFlags [.ofl, .af, .cf]

/-- AAD (41_arithmetic.md R522). -/
def State.aad (s : State) (imm : Byte) : State :=
  let al := s.reg8 .al + s.reg8 .ah * imm
  ((s.setReg16 .ax (wordOf al 0)).setFlags (szp s.flags al)).drawFlags [.ofl, .af, .cf]

/-! ### Conversions (41_arithmetic.md R523 to R525) -/

/-- CBW (41_arithmetic.md R523). -/
def State.cbw (s : State) : State := s.setReg16 .ax (sext16 (s.reg8 .al))

/-- CWD (41_arithmetic.md R524). -/
def State.cwd (s : State) : State := s.setReg16 .dx (if s.regs.ax.msb then 0xFFFF else 0x0000)

/-- SALC (41_arithmetic.md R525). -/
def State.salc (s : State) : State := s.setReg8 .al (if s.flags.cf then 0xFF else 0x00)

/-! ### The instructions -/

/-- ADD Eb Gb (41_arithmetic.md R505). -/
def execAddEbGb (m : RM Reg8) (g : Reg8) (s : State) : Result := .next (aluEbGb .add m g s)

/-- ADD Ew Gw (41_arithmetic.md R505). -/
def execAddEwGw (m : RM Reg16) (g : Reg16) (s : State) : Result := .next (aluEwGw .add m g s)

/-- ADD Gb Eb (41_arithmetic.md R505). -/
def execAddGbEb (g : Reg8) (m : RM Reg8) (s : State) : Result := .next (aluGbEb .add g m s)

/-- ADD Gw Ew (41_arithmetic.md R505). -/
def execAddGwEw (g : Reg16) (m : RM Reg16) (s : State) : Result := .next (aluGwEw .add g m s)

/-- ADD AL Ib (41_arithmetic.md R505). -/
def execAddALIb (imm : Byte) (s : State) : Result := .next (aluALIb .add imm s)

/-- ADD AX Iw (41_arithmetic.md R505). -/
def execAddAXIw (imm : Word) (s : State) : Result := .next (aluAXIw .add imm s)

/-- ADC Eb Gb (41_arithmetic.md R506). -/
def execAdcEbGb (m : RM Reg8) (g : Reg8) (s : State) : Result := .next (aluEbGb .adc m g s)

/-- ADC Ew Gw (41_arithmetic.md R506). -/
def execAdcEwGw (m : RM Reg16) (g : Reg16) (s : State) : Result := .next (aluEwGw .adc m g s)

/-- ADC Gb Eb (41_arithmetic.md R506). -/
def execAdcGbEb (g : Reg8) (m : RM Reg8) (s : State) : Result := .next (aluGbEb .adc g m s)

/-- ADC Gw Ew (41_arithmetic.md R506). -/
def execAdcGwEw (g : Reg16) (m : RM Reg16) (s : State) : Result := .next (aluGwEw .adc g m s)

/-- ADC AL Ib (41_arithmetic.md R506). -/
def execAdcALIb (imm : Byte) (s : State) : Result := .next (aluALIb .adc imm s)

/-- ADC AX Iw (41_arithmetic.md R506). -/
def execAdcAXIw (imm : Word) (s : State) : Result := .next (aluAXIw .adc imm s)

/-- SBB Eb Gb (41_arithmetic.md R508). -/
def execSbbEbGb (m : RM Reg8) (g : Reg8) (s : State) : Result := .next (aluEbGb .sbb m g s)

/-- SBB Ew Gw (41_arithmetic.md R508). -/
def execSbbEwGw (m : RM Reg16) (g : Reg16) (s : State) : Result := .next (aluEwGw .sbb m g s)

/-- SBB Gb Eb (41_arithmetic.md R508). -/
def execSbbGbEb (g : Reg8) (m : RM Reg8) (s : State) : Result := .next (aluGbEb .sbb g m s)

/-- SBB Gw Ew (41_arithmetic.md R508). -/
def execSbbGwEw (g : Reg16) (m : RM Reg16) (s : State) : Result := .next (aluGwEw .sbb g m s)

/-- SBB AL Ib (41_arithmetic.md R508). -/
def execSbbALIb (imm : Byte) (s : State) : Result := .next (aluALIb .sbb imm s)

/-- SBB AX Iw (41_arithmetic.md R508). -/
def execSbbAXIw (imm : Word) (s : State) : Result := .next (aluAXIw .sbb imm s)

/-- SUB Eb Gb (41_arithmetic.md R507). -/
def execSubEbGb (m : RM Reg8) (g : Reg8) (s : State) : Result := .next (aluEbGb .sub m g s)

/-- SUB Ew Gw (41_arithmetic.md R507). -/
def execSubEwGw (m : RM Reg16) (g : Reg16) (s : State) : Result := .next (aluEwGw .sub m g s)

/-- SUB Gb Eb (41_arithmetic.md R507). -/
def execSubGbEb (g : Reg8) (m : RM Reg8) (s : State) : Result := .next (aluGbEb .sub g m s)

/-- SUB Gw Ew (41_arithmetic.md R507). -/
def execSubGwEw (g : Reg16) (m : RM Reg16) (s : State) : Result := .next (aluGwEw .sub g m s)

/-- SUB AL Ib (41_arithmetic.md R507). -/
def execSubALIb (imm : Byte) (s : State) : Result := .next (aluALIb .sub imm s)

/-- SUB AX Iw (41_arithmetic.md R507). -/
def execSubAXIw (imm : Word) (s : State) : Result := .next (aluAXIw .sub imm s)

/-- CMP Eb Gb (41_arithmetic.md R509). -/
def execCmpEbGb (m : RM Reg8) (g : Reg8) (s : State) : Result := .next (aluEbGb .cmp m g s)

/-- CMP Ew Gw (41_arithmetic.md R509). -/
def execCmpEwGw (m : RM Reg16) (g : Reg16) (s : State) : Result := .next (aluEwGw .cmp m g s)

/-- CMP Gb Eb (41_arithmetic.md R509). -/
def execCmpGbEb (g : Reg8) (m : RM Reg8) (s : State) : Result := .next (aluGbEb .cmp g m s)

/-- CMP Gw Ew (41_arithmetic.md R509). -/
def execCmpGwEw (g : Reg16) (m : RM Reg16) (s : State) : Result := .next (aluGwEw .cmp g m s)

/-- CMP AL Ib (41_arithmetic.md R509). -/
def execCmpALIb (imm : Byte) (s : State) : Result := .next (aluALIb .cmp imm s)

/-- CMP AX Iw (41_arithmetic.md R509). -/
def execCmpAXIw (imm : Word) (s : State) : Result := .next (aluAXIw .cmp imm s)

/-- DAA (41_arithmetic.md R519). -/
def execDaa (s : State) : Result := .next (s.daa)

/-- DAS (41_arithmetic.md R520). -/
def execDas (s : State) : Result := .next (s.das)

/-- AAA (41_arithmetic.md R517). -/
def execAaa (s : State) : Result := .next (s.aaa)

/-- AAS (41_arithmetic.md R518). -/
def execAas (s : State) : Result := .next (s.aas)

/-- INC AX (41_arithmetic.md R510). -/
def execIncAX (s : State) : Result := .next (inc16 (.reg .ax) s)

/-- INC CX (41_arithmetic.md R510). -/
def execIncCX (s : State) : Result := .next (inc16 (.reg .cx) s)

/-- INC DX (41_arithmetic.md R510). -/
def execIncDX (s : State) : Result := .next (inc16 (.reg .dx) s)

/-- INC BX (41_arithmetic.md R510). -/
def execIncBX (s : State) : Result := .next (inc16 (.reg .bx) s)

/-- INC SP (41_arithmetic.md R510). -/
def execIncSP (s : State) : Result := .next (inc16 (.reg .sp) s)

/-- INC BP (41_arithmetic.md R510). -/
def execIncBP (s : State) : Result := .next (inc16 (.reg .bp) s)

/-- INC SI (41_arithmetic.md R510). -/
def execIncSI (s : State) : Result := .next (inc16 (.reg .si) s)

/-- INC DI (41_arithmetic.md R510). -/
def execIncDI (s : State) : Result := .next (inc16 (.reg .di) s)

/-- DEC AX (41_arithmetic.md R511). -/
def execDecAX (s : State) : Result := .next (dec16 (.reg .ax) s)

/-- DEC CX (41_arithmetic.md R511). -/
def execDecCX (s : State) : Result := .next (dec16 (.reg .cx) s)

/-- DEC DX (41_arithmetic.md R511). -/
def execDecDX (s : State) : Result := .next (dec16 (.reg .dx) s)

/-- DEC BX (41_arithmetic.md R511). -/
def execDecBX (s : State) : Result := .next (dec16 (.reg .bx) s)

/-- DEC SP (41_arithmetic.md R511). -/
def execDecSP (s : State) : Result := .next (dec16 (.reg .sp) s)

/-- DEC BP (41_arithmetic.md R511). -/
def execDecBP (s : State) : Result := .next (dec16 (.reg .bp) s)

/-- DEC SI (41_arithmetic.md R511). -/
def execDecSI (s : State) : Result := .next (dec16 (.reg .si) s)

/-- DEC DI (41_arithmetic.md R511). -/
def execDecDI (s : State) : Result := .next (dec16 (.reg .di) s)

/-- ADD Eb Ib (41_arithmetic.md R505). -/
def execAddEbIb (m : RM Reg8) (imm : Byte) (s : State) : Result := .next (aluEbIb .add m imm s)

/-- ADC Eb Ib (41_arithmetic.md R506). -/
def execAdcEbIb (m : RM Reg8) (imm : Byte) (s : State) : Result := .next (aluEbIb .adc m imm s)

/-- SBB Eb Ib (41_arithmetic.md R508). -/
def execSbbEbIb (m : RM Reg8) (imm : Byte) (s : State) : Result := .next (aluEbIb .sbb m imm s)

/-- SUB Eb Ib (41_arithmetic.md R507). -/
def execSubEbIb (m : RM Reg8) (imm : Byte) (s : State) : Result := .next (aluEbIb .sub m imm s)

/-- CMP Eb Ib (41_arithmetic.md R509). -/
def execCmpEbIb (m : RM Reg8) (imm : Byte) (s : State) : Result := .next (aluEbIb .cmp m imm s)

/-- ADD Ew Iw (41_arithmetic.md R505). -/
def execAddEwIw (m : RM Reg16) (imm : Word) (s : State) : Result := .next (aluEwIw .add m imm s)

/-- ADC Ew Iw (41_arithmetic.md R506). -/
def execAdcEwIw (m : RM Reg16) (imm : Word) (s : State) : Result := .next (aluEwIw .adc m imm s)

/-- SBB Ew Iw (41_arithmetic.md R508). -/
def execSbbEwIw (m : RM Reg16) (imm : Word) (s : State) : Result := .next (aluEwIw .sbb m imm s)

/-- SUB Ew Iw (41_arithmetic.md R507). -/
def execSubEwIw (m : RM Reg16) (imm : Word) (s : State) : Result := .next (aluEwIw .sub m imm s)

/-- CMP Ew Iw (41_arithmetic.md R509). -/
def execCmpEwIw (m : RM Reg16) (imm : Word) (s : State) : Result := .next (aluEwIw .cmp m imm s)

/-- ADD Ew Ibs (41_arithmetic.md R505). -/
def execAddEwIbs (m : RM Reg16) (imm : Byte) (s : State) : Result := .next (aluEwIw .add m (sext16 imm) s)

/-- ADC Ew Ibs (41_arithmetic.md R506). -/
def execAdcEwIbs (m : RM Reg16) (imm : Byte) (s : State) : Result := .next (aluEwIw .adc m (sext16 imm) s)

/-- SBB Ew Ibs (41_arithmetic.md R508). -/
def execSbbEwIbs (m : RM Reg16) (imm : Byte) (s : State) : Result := .next (aluEwIw .sbb m (sext16 imm) s)

/-- SUB Ew Ibs (41_arithmetic.md R507). -/
def execSubEwIbs (m : RM Reg16) (imm : Byte) (s : State) : Result := .next (aluEwIw .sub m (sext16 imm) s)

/-- CMP Ew Ibs (41_arithmetic.md R509). -/
def execCmpEwIbs (m : RM Reg16) (imm : Byte) (s : State) : Result := .next (aluEwIw .cmp m (sext16 imm) s)

/-- CBW (41_arithmetic.md R523). -/
def execCbw (s : State) : Result := .next (s.cbw)

/-- CWD (41_arithmetic.md R524). -/
def execCwd (s : State) : Result := .next (s.cwd)

/-- AAM Ib (41_arithmetic.md R521). -/
def execAamIb (imm : Byte) (s : State) : Result := .next (s.aam imm)

/-- AAD Ib (41_arithmetic.md R522). -/
def execAadIb (imm : Byte) (s : State) : Result := .next (s.aad imm)

/-- SALC (41_arithmetic.md R525). -/
def execSalc (s : State) : Result := .next (s.salc)

/-- NEG Eb (41_arithmetic.md R512). -/
def execNegEb (m : RM Reg8) (s : State) : Result := .next (neg8 m s)

/-- MUL Eb (41_arithmetic.md R513). -/
def execMulEb (m : RM Reg8) (s : State) : Result := .next (mul8 m s)

/-- IMUL Eb (41_arithmetic.md R514). -/
def execImulEb (m : RM Reg8) (s : State) : Result := .next (imul8 m s)

/-- DIV Eb (41_arithmetic.md R515). -/
def execDivEb (m : RM Reg8) (s : State) : Result := .next (div8 m s)

/-- IDIV Eb (41_arithmetic.md R516). -/
def execIdivEb (m : RM Reg8) (s : State) : Result := .next (idiv8 m s)

/-- NEG Ew (41_arithmetic.md R512). -/
def execNegEw (m : RM Reg16) (s : State) : Result := .next (neg16 m s)

/-- MUL Ew (41_arithmetic.md R513). -/
def execMulEw (m : RM Reg16) (s : State) : Result := .next (mul16 m s)

/-- IMUL Ew (41_arithmetic.md R514). -/
def execImulEw (m : RM Reg16) (s : State) : Result := .next (imul16 m s)

/-- DIV Ew (41_arithmetic.md R515). -/
def execDivEw (m : RM Reg16) (s : State) : Result := .next (div16 m s)

/-- IDIV Ew (41_arithmetic.md R516). -/
def execIdivEw (m : RM Reg16) (s : State) : Result := .next (idiv16 m s)

/-- INC Eb (41_arithmetic.md R510). -/
def execIncEb (m : RM Reg8) (s : State) : Result := .next (inc8 m s)

/-- DEC Eb (41_arithmetic.md R511). -/
def execDecEb (m : RM Reg8) (s : State) : Result := .next (dec8 m s)

/-- INC Ew (41_arithmetic.md R510). -/
def execIncEw (m : RM Reg16) (s : State) : Result := .next (inc16 m s)

/-- DEC Ew (41_arithmetic.md R511). -/
def execDecEw (m : RM Reg16) (s : State) : Result := .next (dec16 m s)

end Sys2Proof.Machine
end

