-- ==== Sys2Proof/Machine/Control.lean ====
section
/-! DEFINITION. The control transfer instructions (44_control_transfer.md R800 to R838). -/

namespace Sys2Proof.Machine

/-! ### Shared operations -/

/-- A conditional relative jump (44_control_transfer.md R814). -/
def State.jumpIf (s : State) (b : Bool) (rel : Byte) : State := if b then s.jump (s.ip + sext16 rel) else s

/-- CX counted down, then a jump when CX is not 0 and the condition holds (44_control_transfer.md R831 to R833). -/
def State.loop (s : State) (cond : Bool) (rel : Byte) : State :=
  (s.setReg16 .cx (s.regs.cx - 1)).jumpIf (s.regs.cx - 1 != 0 && cond) rel

/-- JMP Ew (44_control_transfer.md R804). -/
def jumpRM (m : RM Reg16) (s : State) : State :=
  let t := s.readRM16 m
  t.2.jump t.1

/-- JMP Mp (44_control_transfer.md R805). -/
def jumpMem (a : EA) (s : State) : State :=
  let p := s.readFar a
  p.2.jumpFar p.1.1 p.1.2

/-- A far call: push CS, push IP, jump (44_control_transfer.md R807). -/
def State.callFar (s : State) (seg off : Word) : State := ((s.push s.sregs.cs).push s.ip).jumpFar seg off

/-- CALL Ew: the target is read before the push (44_control_transfer.md R808). -/
def callRM (m : RM Reg16) (s : State) : State :=
  let t := s.readRM16 m
  (t.2.push t.2.ip).jump t.1

/-- CALL Mp: the pointer is read before the pushes (44_control_transfer.md R809). -/
def callMem (a : EA) (s : State) : State :=
  let p := s.readFar a
  p.2.callFar p.1.1 p.1.2

/-- SP moved up by `n` (44_control_transfer.md R811, R813). -/
def State.adjustSP (s : State) (n : Word) : State := s.setReg16 .sp (s.regs.sp + n)

/-- A near return (44_control_transfer.md R810, R811). -/
def State.ret (s : State) (n : Word) : State :=
  let t := s.pop
  (t.2.adjustSP n).jump t.1

/-- A far return: IP first, then CS (44_control_transfer.md R812, R813). -/
def State.retFar (s : State) (n : Word) : State :=
  let off := s.pop
  let seg := off.2.pop
  (seg.2.adjustSP n).jumpFar seg.1 off.1

/-! ### The instructions -/

/-- JO Jb (44_control_transfer.md R815). -/
def execJoJb (rel : Byte) (s : State) : Result := .next (s.jumpIf (Cond.holds .o s.flags) rel)

/-- JNO Jb (44_control_transfer.md R816). -/
def execJnoJb (rel : Byte) (s : State) : Result := .next (s.jumpIf (Cond.holds .no s.flags) rel)

/-- JB Jb (44_control_transfer.md R817). -/
def execJbJb (rel : Byte) (s : State) : Result := .next (s.jumpIf (Cond.holds .b s.flags) rel)

/-- JAE Jb (44_control_transfer.md R818). -/
def execJaeJb (rel : Byte) (s : State) : Result := .next (s.jumpIf (Cond.holds .ae s.flags) rel)

/-- JE Jb (44_control_transfer.md R819). -/
def execJeJb (rel : Byte) (s : State) : Result := .next (s.jumpIf (Cond.holds .e s.flags) rel)

/-- JNE Jb (44_control_transfer.md R820). -/
def execJneJb (rel : Byte) (s : State) : Result := .next (s.jumpIf (Cond.holds .ne s.flags) rel)

/-- JBE Jb (44_control_transfer.md R821). -/
def execJbeJb (rel : Byte) (s : State) : Result := .next (s.jumpIf (Cond.holds .be s.flags) rel)

/-- JA Jb (44_control_transfer.md R822). -/
def execJaJb (rel : Byte) (s : State) : Result := .next (s.jumpIf (Cond.holds .a s.flags) rel)

/-- JS Jb (44_control_transfer.md R823). -/
def execJsJb (rel : Byte) (s : State) : Result := .next (s.jumpIf (Cond.holds .s s.flags) rel)

/-- JNS Jb (44_control_transfer.md R824). -/
def execJnsJb (rel : Byte) (s : State) : Result := .next (s.jumpIf (Cond.holds .ns s.flags) rel)

/-- JP Jb (44_control_transfer.md R825). -/
def execJpJb (rel : Byte) (s : State) : Result := .next (s.jumpIf (Cond.holds .p s.flags) rel)

/-- JNP Jb (44_control_transfer.md R826). -/
def execJnpJb (rel : Byte) (s : State) : Result := .next (s.jumpIf (Cond.holds .np s.flags) rel)

/-- JL Jb (44_control_transfer.md R827). -/
def execJlJb (rel : Byte) (s : State) : Result := .next (s.jumpIf (Cond.holds .l s.flags) rel)

/-- JGE Jb (44_control_transfer.md R828). -/
def execJgeJb (rel : Byte) (s : State) : Result := .next (s.jumpIf (Cond.holds .ge s.flags) rel)

/-- JLE Jb (44_control_transfer.md R829). -/
def execJleJb (rel : Byte) (s : State) : Result := .next (s.jumpIf (Cond.holds .le s.flags) rel)

/-- JG Jb (44_control_transfer.md R830). -/
def execJgJb (rel : Byte) (s : State) : Result := .next (s.jumpIf (Cond.holds .g s.flags) rel)

/-- CALL Ap (44_control_transfer.md R807). -/
def execCallAp (off : Word) (seg : Word) (s : State) : Result := .next (s.callFar seg off)

/-- RET Iw (44_control_transfer.md R811). -/
def execRetIw (imm : Word) (s : State) : Result := .next (s.ret imm)

/-- RET (44_control_transfer.md R810). -/
def execRet (s : State) : Result := .next (s.ret 0)

/-- RETF Iw (44_control_transfer.md R813). -/
def execRetfIw (imm : Word) (s : State) : Result := .next (s.retFar imm)

/-- RETF (44_control_transfer.md R812). -/
def execRetf (s : State) : Result := .next (s.retFar 0)

/-- INT3 (44_control_transfer.md R836). -/
def execInt3 (s : State) : Result := .next (s.softInterrupt 3)

/-- INT Ib (44_control_transfer.md R835). -/
def execIntIb (imm : Byte) (s : State) : Result := .next (s.softInterrupt imm)

/-- INTO (44_control_transfer.md R837). -/
def execInto (s : State) : Result := .next (if s.flags.ofl then s.softInterrupt 4 else s)

/-- IRET (44_control_transfer.md R838). -/
def execIret (s : State) : Result := .next (s.interruptReturn)

/-- LOOPNE Jb (44_control_transfer.md R833). -/
def execLoopneJb (rel : Byte) (s : State) : Result := .next (s.loop (!s.flags.zf) rel)

/-- LOOPE Jb (44_control_transfer.md R832). -/
def execLoopeJb (rel : Byte) (s : State) : Result := .next (s.loop s.flags.zf rel)

/-- LOOP Jb (44_control_transfer.md R831). -/
def execLoopJb (rel : Byte) (s : State) : Result := .next (s.loop true rel)

/-- JCXZ Jb (44_control_transfer.md R834). -/
def execJcxzJb (rel : Byte) (s : State) : Result := .next (s.jumpIf (s.regs.cx == 0) rel)

/-- CALL Jw (44_control_transfer.md R806). -/
def execCallJw (rel : Word) (s : State) : Result := .next ((s.push s.ip).jump (s.ip + rel))

/-- JMP Jw (44_control_transfer.md R802). -/
def execJmpJw (rel : Word) (s : State) : Result := .next (s.jump (s.ip + rel))

/-- JMP Ap (44_control_transfer.md R803). -/
def execJmpAp (off : Word) (seg : Word) (s : State) : Result := .next (s.jumpFar seg off)

/-- JMP Jb (44_control_transfer.md R801). -/
def execJmpJb (rel : Byte) (s : State) : Result := .next (s.jump (s.ip + sext16 rel))

/-- CALL Ew (44_control_transfer.md R808). -/
def execCallEw (m : RM Reg16) (s : State) : Result := .next (callRM m s)

/-- CALL Mp (44_control_transfer.md R809). -/
def execCallMp (a : EA) (s : State) : Result := .next (callMem a s)

/-- JMP Ew (44_control_transfer.md R804). -/
def execJmpEw (m : RM Reg16) (s : State) : Result := .next (jumpRM m s)

/-- JMP Mp (44_control_transfer.md R805). -/
def execJmpMp (a : EA) (s : State) : Result := .next (jumpMem a s)

end Sys2Proof.Machine
end

