-- ==== Sys2Proof/Machine/DataTransfer.lean ====
section
/-! DEFINITION. The data transfer instructions (40_data_transfer.md R400 to R428). -/

namespace Sys2Proof.Machine

/-! ### Shared operations -/

/-- Gb <- read Eb (40_data_transfer.md R400). -/
def movRegRM8 (g : Reg8) (m : RM Reg8) (s : State) : State :=
  let v := s.readRM8 m
  v.2.setReg8 g v.1

/-- Gw <- read Ew (40_data_transfer.md R400). -/
def movRegRM16 (g : Reg16) (m : RM Reg16) (s : State) : State :=
  let v := s.readRM16 m
  v.2.setReg16 g v.1

/-- AL <- the byte at a direct offset, default segment DS (40_data_transfer.md R405). -/
def movAccMem8 (off : Word) (s : State) : State :=
  let v := s.readB (s.segValue .ds) off
  v.2.setReg8 .al v.1

/-- AX <- the word at a direct offset, default segment DS (40_data_transfer.md R405). -/
def movAccMem16 (off : Word) (s : State) : State :=
  let v := s.readW (s.segValue .ds) off
  v.2.setReg16 .ax v.1

/-- The interrupt shadow of a segment-register load (40_data_transfer.md R403, R416, 60_exceptions.md R1050). -/
def State.shadowLoad (s : State) : State :=
  { s with eu := { s.eu with inhibitAll := s.eu.inhibitAll || s.cfg.sregLoadInhibit } }

/-- sreg <- read Ew, with its interrupt shadow (40_data_transfer.md R403). -/
def movSegRM (g : SReg) (m : RM Reg16) (s : State) : State :=
  let v := s.readRM16 m
  (v.2.setSReg g v.1).shadowLoad

/-- Pop into a word register; for SP the word read stands (40_data_transfer.md R415). -/
def popReg (g : Reg16) (s : State) : State :=
  let v := s.pop
  v.2.setReg16 g v.1

/-- Pop into a segment register, with its interrupt shadow (40_data_transfer.md R416). -/
def popSeg (g : SReg) (s : State) : State :=
  let v := s.pop
  (v.2.setSReg g v.1).shadowLoad

/-- Pop into Ew (40_data_transfer.md R417). -/
def popRM (m : RM Reg16) (s : State) : State :=
  let v := s.pop
  v.2.writeRM16 m v.1

/-- Push Ew (40_data_transfer.md R412). For SP as the register the word pushed is the old SP or the old SP - 2, which
a free bit chooses (log 17). -/
def pushRM (m : RM Reg16) (s : State) : State :=
  match m with
  | .reg .sp =>
    let b := s.drawBit
    b.2.push (if b.1 then s.regs.sp else s.regs.sp - 2)
  | m =>
    let v := s.readRM16 m
    v.2.push v.1

/-- Exchange Eb and Gb (40_data_transfer.md R419). -/
def xchgRM8 (m : RM Reg8) (g : Reg8) (s : State) : State :=
  let v := s.readRM8 m
  (v.2.writeRM8 m (v.2.reg8 g)).setReg8 g v.1

/-- Exchange Ew and Gw (40_data_transfer.md R419). -/
def xchgRM16 (m : RM Reg16) (g : Reg16) (s : State) : State :=
  let v := s.readRM16 m
  (v.2.writeRM16 m (v.2.reg16 g)).setReg16 g v.1

/-- AL <- the byte of a port (40_data_transfer.md R421). -/
def inAL (port : Word) (s : State) : State :=
  let v := s.ioReadB port
  v.2.setReg8 .al v.1

/-- AX <- the word of two ports (40_data_transfer.md R421). -/
def inAX (port : Word) (s : State) : State :=
  let v := s.ioReadW port
  v.2.setReg16 .ax v.1

/-- AL <- the byte at BX + AL, default segment DS (40_data_transfer.md R423). -/
def State.xlat (s : State) : State :=
  let v := s.readB (s.segValue .ds) (s.regs.bx + zext16 (s.reg8 .al))
  v.2.setReg8 .al v.1

/-- Gw <- EA; with a register operand Gw gets a free value (40_data_transfer.md R424). -/
def lea (g : Reg16) (m : RM Reg16) (s : State) : State :=
  match m with
  | .mem a => s.setReg16 g (s.ea a)
  | .reg _ => s.drawReg16 g

/-- Gw <- the offset and a segment register <- the segment of a far pointer (40_data_transfer.md R425, R426). -/
def loadFar (r : SReg) (g : Reg16) (a : EA) (s : State) : State :=
  let p := s.readFar a
  (p.2.setReg16 g p.1.2).setSReg r p.1.1

/-- SF, ZF, AF, PF and CF from AH (40_data_transfer.md R428). -/
def State.sahf (s : State) : State :=
  let f := Flags.ofWord (zext16 (s.reg8 .ah))
  s.setFlags { s.flags with sf := f.sf, zf := f.zf, af := f.af, pf := f.pf, cf := f.cf }

/-! ### The instructions -/

/-- PUSH ES (40_data_transfer.md R411). -/
def execPushES (s : State) : Result := .next (s.push (s.sreg .es))

/-- POP ES (40_data_transfer.md R416). -/
def execPopES (s : State) : Result := .next (popSeg .es s)

/-- PUSH CS (40_data_transfer.md R411). -/
def execPushCS (s : State) : Result := .next (s.push (s.sreg .cs))

/-- PUSH SS (40_data_transfer.md R411). -/
def execPushSS (s : State) : Result := .next (s.push (s.sreg .ss))

/-- POP SS (40_data_transfer.md R416). -/
def execPopSS (s : State) : Result := .next (popSeg .ss s)

/-- PUSH DS (40_data_transfer.md R411). -/
def execPushDS (s : State) : Result := .next (s.push (s.sreg .ds))

/-- POP DS (40_data_transfer.md R416). -/
def execPopDS (s : State) : Result := .next (popSeg .ds s)

/-- PUSH AX (40_data_transfer.md R410). -/
def execPushAX (s : State) : Result := .next (s.push (s.reg16 .ax))

/-- PUSH CX (40_data_transfer.md R410). -/
def execPushCX (s : State) : Result := .next (s.push (s.reg16 .cx))

/-- PUSH DX (40_data_transfer.md R410). -/
def execPushDX (s : State) : Result := .next (s.push (s.reg16 .dx))

/-- PUSH BX (40_data_transfer.md R410). -/
def execPushBX (s : State) : Result := .next (s.push (s.reg16 .bx))

/-- PUSH SP (40_data_transfer.md R410). -/
def execPushSP (s : State) : Result := .next (s.push (s.regs.sp - 2))

/-- PUSH BP (40_data_transfer.md R410). -/
def execPushBP (s : State) : Result := .next (s.push (s.reg16 .bp))

/-- PUSH SI (40_data_transfer.md R410). -/
def execPushSI (s : State) : Result := .next (s.push (s.reg16 .si))

/-- PUSH DI (40_data_transfer.md R410). -/
def execPushDI (s : State) : Result := .next (s.push (s.reg16 .di))

/-- POP AX (40_data_transfer.md R415). -/
def execPopAX (s : State) : Result := .next (popReg .ax s)

/-- POP CX (40_data_transfer.md R415). -/
def execPopCX (s : State) : Result := .next (popReg .cx s)

/-- POP DX (40_data_transfer.md R415). -/
def execPopDX (s : State) : Result := .next (popReg .dx s)

/-- POP BX (40_data_transfer.md R415). -/
def execPopBX (s : State) : Result := .next (popReg .bx s)

/-- POP SP (40_data_transfer.md R415). -/
def execPopSP (s : State) : Result := .next (popReg .sp s)

/-- POP BP (40_data_transfer.md R415). -/
def execPopBP (s : State) : Result := .next (popReg .bp s)

/-- POP SI (40_data_transfer.md R415). -/
def execPopSI (s : State) : Result := .next (popReg .si s)

/-- POP DI (40_data_transfer.md R415). -/
def execPopDI (s : State) : Result := .next (popReg .di s)

/-- XCHG Eb Gb (40_data_transfer.md R419). -/
def execXchgEbGb (m : RM Reg8) (g : Reg8) (s : State) : Result := .next (xchgRM8 m g s)

/-- XCHG Ew Gw (40_data_transfer.md R419). -/
def execXchgEwGw (m : RM Reg16) (g : Reg16) (s : State) : Result := .next (xchgRM16 m g s)

/-- MOV Eb Gb (40_data_transfer.md R400). -/
def execMovEbGb (m : RM Reg8) (g : Reg8) (s : State) : Result := .next (s.writeRM8 m (s.reg8 g))

/-- MOV Ew Gw (40_data_transfer.md R400). -/
def execMovEwGw (m : RM Reg16) (g : Reg16) (s : State) : Result := .next (s.writeRM16 m (s.reg16 g))

/-- MOV Gb Eb (40_data_transfer.md R400). -/
def execMovGbEb (g : Reg8) (m : RM Reg8) (s : State) : Result := .next (movRegRM8 g m s)

/-- MOV Gw Ew (40_data_transfer.md R400). -/
def execMovGwEw (g : Reg16) (m : RM Reg16) (s : State) : Result := .next (movRegRM16 g m s)

/-- MOV Ew ES (40_data_transfer.md R404). -/
def execMovEwES (m : RM Reg16) (s : State) : Result := .next (s.writeRM16 m (s.sreg .es))

/-- MOV Ew CS (40_data_transfer.md R404). -/
def execMovEwCS (m : RM Reg16) (s : State) : Result := .next (s.writeRM16 m (s.sreg .cs))

/-- MOV Ew SS (40_data_transfer.md R404). -/
def execMovEwSS (m : RM Reg16) (s : State) : Result := .next (s.writeRM16 m (s.sreg .ss))

/-- MOV Ew DS (40_data_transfer.md R404). -/
def execMovEwDS (m : RM Reg16) (s : State) : Result := .next (s.writeRM16 m (s.sreg .ds))

/-- LEA Gw M (40_data_transfer.md R424). -/
def execLeaGwM (g : Reg16) (m : RM Reg16) (s : State) : Result := .next (lea g m s)

/-- MOV ES Ew (40_data_transfer.md R403). -/
def execMovESEw (m : RM Reg16) (s : State) : Result := .next (movSegRM .es m s)

/-- MOV SS Ew (40_data_transfer.md R403). -/
def execMovSSEw (m : RM Reg16) (s : State) : Result := .next (movSegRM .ss m s)

/-- MOV DS Ew (40_data_transfer.md R403). -/
def execMovDSEw (m : RM Reg16) (s : State) : Result := .next (movSegRM .ds m s)

/-- POP Ew (40_data_transfer.md R417). -/
def execPopEw (m : RM Reg16) (s : State) : Result := .next (popRM m s)

/-- NOP (40_data_transfer.md R420). -/
def execNop (s : State) : Result := .next s

/-- XCHG AX CX (40_data_transfer.md R419). -/
def execXchgAXCX (s : State) : Result := .next (xchgRM16 (.reg .ax) .cx s)

/-- XCHG AX DX (40_data_transfer.md R419). -/
def execXchgAXDX (s : State) : Result := .next (xchgRM16 (.reg .ax) .dx s)

/-- XCHG AX BX (40_data_transfer.md R419). -/
def execXchgAXBX (s : State) : Result := .next (xchgRM16 (.reg .ax) .bx s)

/-- XCHG AX SP (40_data_transfer.md R419). -/
def execXchgAXSP (s : State) : Result := .next (xchgRM16 (.reg .ax) .sp s)

/-- XCHG AX BP (40_data_transfer.md R419). -/
def execXchgAXBP (s : State) : Result := .next (xchgRM16 (.reg .ax) .bp s)

/-- XCHG AX SI (40_data_transfer.md R419). -/
def execXchgAXSI (s : State) : Result := .next (xchgRM16 (.reg .ax) .si s)

/-- XCHG AX DI (40_data_transfer.md R419). -/
def execXchgAXDI (s : State) : Result := .next (xchgRM16 (.reg .ax) .di s)

/-- PUSHF (40_data_transfer.md R413). -/
def execPushf (s : State) : Result := .next (s.push s.flags.toWord)

/-- POPF (40_data_transfer.md R418). -/
def execPopf (s : State) : Result := .next (s.pop.2.setFlags (Flags.ofWord s.pop.1))

/-- SAHF (40_data_transfer.md R428). -/
def execSahf (s : State) : Result := .next (s.sahf)

/-- LAHF (40_data_transfer.md R427). -/
def execLahf (s : State) : Result := .next (s.setReg8 .ah (loByte s.flags.toWord))

/-- MOV AL Ob (40_data_transfer.md R405). -/
def execMovALOb (off : Word) (s : State) : Result := .next (movAccMem8 off s)

/-- MOV AX Ow (40_data_transfer.md R405). -/
def execMovAXOw (off : Word) (s : State) : Result := .next (movAccMem16 off s)

/-- MOV Ob AL (40_data_transfer.md R406). -/
def execMovObAL (off : Word) (s : State) : Result := .next (s.writeB (s.segValue .ds) off (s.reg8 .al))

/-- MOV Ow AX (40_data_transfer.md R406). -/
def execMovOwAX (off : Word) (s : State) : Result := .next (s.writeW (s.segValue .ds) off s.regs.ax)

/-- MOV AL Ib (40_data_transfer.md R402). -/
def execMovALIb (imm : Byte) (s : State) : Result := .next (s.setReg8 .al imm)

/-- MOV CL Ib (40_data_transfer.md R402). -/
def execMovCLIb (imm : Byte) (s : State) : Result := .next (s.setReg8 .cl imm)

/-- MOV DL Ib (40_data_transfer.md R402). -/
def execMovDLIb (imm : Byte) (s : State) : Result := .next (s.setReg8 .dl imm)

/-- MOV BL Ib (40_data_transfer.md R402). -/
def execMovBLIb (imm : Byte) (s : State) : Result := .next (s.setReg8 .bl imm)

/-- MOV AH Ib (40_data_transfer.md R402). -/
def execMovAHIb (imm : Byte) (s : State) : Result := .next (s.setReg8 .ah imm)

/-- MOV CH Ib (40_data_transfer.md R402). -/
def execMovCHIb (imm : Byte) (s : State) : Result := .next (s.setReg8 .ch imm)

/-- MOV DH Ib (40_data_transfer.md R402). -/
def execMovDHIb (imm : Byte) (s : State) : Result := .next (s.setReg8 .dh imm)

/-- MOV BH Ib (40_data_transfer.md R402). -/
def execMovBHIb (imm : Byte) (s : State) : Result := .next (s.setReg8 .bh imm)

/-- MOV AX Iw (40_data_transfer.md R402). -/
def execMovAXIw (imm : Word) (s : State) : Result := .next (s.setReg16 .ax imm)

/-- MOV CX Iw (40_data_transfer.md R402). -/
def execMovCXIw (imm : Word) (s : State) : Result := .next (s.setReg16 .cx imm)

/-- MOV DX Iw (40_data_transfer.md R402). -/
def execMovDXIw (imm : Word) (s : State) : Result := .next (s.setReg16 .dx imm)

/-- MOV BX Iw (40_data_transfer.md R402). -/
def execMovBXIw (imm : Word) (s : State) : Result := .next (s.setReg16 .bx imm)

/-- MOV SP Iw (40_data_transfer.md R402). -/
def execMovSPIw (imm : Word) (s : State) : Result := .next (s.setReg16 .sp imm)

/-- MOV BP Iw (40_data_transfer.md R402). -/
def execMovBPIw (imm : Word) (s : State) : Result := .next (s.setReg16 .bp imm)

/-- MOV SI Iw (40_data_transfer.md R402). -/
def execMovSIIw (imm : Word) (s : State) : Result := .next (s.setReg16 .si imm)

/-- MOV DI Iw (40_data_transfer.md R402). -/
def execMovDIIw (imm : Word) (s : State) : Result := .next (s.setReg16 .di imm)

/-- LES Gw Mp (40_data_transfer.md R426). -/
def execLesGwMp (g : Reg16) (a : EA) (s : State) : Result := .next (loadFar .es g a s)

/-- LDS Gw Mp (40_data_transfer.md R425). -/
def execLdsGwMp (g : Reg16) (a : EA) (s : State) : Result := .next (loadFar .ds g a s)

/-- MOV Eb Ib (40_data_transfer.md R401). -/
def execMovEbIb (m : RM Reg8) (imm : Byte) (s : State) : Result := .next (s.writeRM8 m imm)

/-- MOV Ew Iw (40_data_transfer.md R401). -/
def execMovEwIw (m : RM Reg16) (imm : Word) (s : State) : Result := .next (s.writeRM16 m imm)

/-- XLAT (40_data_transfer.md R423). -/
def execXlat (s : State) : Result := .next (s.xlat)

/-- IN AL Ib (40_data_transfer.md R421). -/
def execInALIb (imm : Byte) (s : State) : Result := .next (inAL (zext16 imm) s)

/-- IN AX Ib (40_data_transfer.md R421). -/
def execInAXIb (imm : Byte) (s : State) : Result := .next (inAX (zext16 imm) s)

/-- OUT Ib AL (40_data_transfer.md R422). -/
def execOutIbAL (imm : Byte) (s : State) : Result := .next (s.ioWriteB (zext16 imm) (s.reg8 .al))

/-- OUT Ib AX (40_data_transfer.md R422). -/
def execOutIbAX (imm : Byte) (s : State) : Result := .next (s.ioWriteW (zext16 imm) s.regs.ax)

/-- IN AL DX (40_data_transfer.md R421). -/
def execInALDX (s : State) : Result := .next (inAL s.regs.dx s)

/-- IN AX DX (40_data_transfer.md R421). -/
def execInAXDX (s : State) : Result := .next (inAX s.regs.dx s)

/-- OUT DX AL (40_data_transfer.md R422). -/
def execOutDXAL (s : State) : Result := .next (s.ioWriteB s.regs.dx (s.reg8 .al))

/-- OUT DX AX (40_data_transfer.md R422). -/
def execOutDXAX (s : State) : Result := .next (s.ioWriteW s.regs.dx s.regs.ax)

/-- PUSH Ew (40_data_transfer.md R412). -/
def execPushEw (m : RM Reg16) (s : State) : Result := .next (pushRM m s)

end Sys2Proof.Machine
end

