-- ==== Sys2Proof/Machine/Logic.lean ====
section
/-! DEFINITION. The logic, shift and rotate instructions (42_logic_shift.md R600 to R614). -/

namespace Sys2Proof.Machine

/-! ### NOT (42_logic_shift.md R605) -/

def not8 (m : RM Reg8) (s : State) : State := unaryRM8 (fun a => ~~~a) (fun f _ => f) m s
def not16 (m : RM Reg16) (s : State) : State := unaryRM16 (fun a => ~~~a) (fun f _ => f) m s

/-! ### The instructions -/

/-- OR Eb Gb (42_logic_shift.md R602). -/
def execOrEbGb (m : RM Reg8) (g : Reg8) (s : State) : Result := .next (aluEbGb .or m g s)

/-- OR Ew Gw (42_logic_shift.md R602). -/
def execOrEwGw (m : RM Reg16) (g : Reg16) (s : State) : Result := .next (aluEwGw .or m g s)

/-- OR Gb Eb (42_logic_shift.md R602). -/
def execOrGbEb (g : Reg8) (m : RM Reg8) (s : State) : Result := .next (aluGbEb .or g m s)

/-- OR Gw Ew (42_logic_shift.md R602). -/
def execOrGwEw (g : Reg16) (m : RM Reg16) (s : State) : Result := .next (aluGwEw .or g m s)

/-- OR AL Ib (42_logic_shift.md R602). -/
def execOrALIb (imm : Byte) (s : State) : Result := .next (aluALIb .or imm s)

/-- OR AX Iw (42_logic_shift.md R602). -/
def execOrAXIw (imm : Word) (s : State) : Result := .next (aluAXIw .or imm s)

/-- AND Eb Gb (42_logic_shift.md R601). -/
def execAndEbGb (m : RM Reg8) (g : Reg8) (s : State) : Result := .next (aluEbGb .and m g s)

/-- AND Ew Gw (42_logic_shift.md R601). -/
def execAndEwGw (m : RM Reg16) (g : Reg16) (s : State) : Result := .next (aluEwGw .and m g s)

/-- AND Gb Eb (42_logic_shift.md R601). -/
def execAndGbEb (g : Reg8) (m : RM Reg8) (s : State) : Result := .next (aluGbEb .and g m s)

/-- AND Gw Ew (42_logic_shift.md R601). -/
def execAndGwEw (g : Reg16) (m : RM Reg16) (s : State) : Result := .next (aluGwEw .and g m s)

/-- AND AL Ib (42_logic_shift.md R601). -/
def execAndALIb (imm : Byte) (s : State) : Result := .next (aluALIb .and imm s)

/-- AND AX Iw (42_logic_shift.md R601). -/
def execAndAXIw (imm : Word) (s : State) : Result := .next (aluAXIw .and imm s)

/-- XOR Eb Gb (42_logic_shift.md R603). -/
def execXorEbGb (m : RM Reg8) (g : Reg8) (s : State) : Result := .next (aluEbGb .xor m g s)

/-- XOR Ew Gw (42_logic_shift.md R603). -/
def execXorEwGw (m : RM Reg16) (g : Reg16) (s : State) : Result := .next (aluEwGw .xor m g s)

/-- XOR Gb Eb (42_logic_shift.md R603). -/
def execXorGbEb (g : Reg8) (m : RM Reg8) (s : State) : Result := .next (aluGbEb .xor g m s)

/-- XOR Gw Ew (42_logic_shift.md R603). -/
def execXorGwEw (g : Reg16) (m : RM Reg16) (s : State) : Result := .next (aluGwEw .xor g m s)

/-- XOR AL Ib (42_logic_shift.md R603). -/
def execXorALIb (imm : Byte) (s : State) : Result := .next (aluALIb .xor imm s)

/-- XOR AX Iw (42_logic_shift.md R603). -/
def execXorAXIw (imm : Word) (s : State) : Result := .next (aluAXIw .xor imm s)

/-- OR Eb Ib (42_logic_shift.md R602). -/
def execOrEbIb (m : RM Reg8) (imm : Byte) (s : State) : Result := .next (aluEbIb .or m imm s)

/-- AND Eb Ib (42_logic_shift.md R601). -/
def execAndEbIb (m : RM Reg8) (imm : Byte) (s : State) : Result := .next (aluEbIb .and m imm s)

/-- XOR Eb Ib (42_logic_shift.md R603). -/
def execXorEbIb (m : RM Reg8) (imm : Byte) (s : State) : Result := .next (aluEbIb .xor m imm s)

/-- OR Ew Iw (42_logic_shift.md R602). -/
def execOrEwIw (m : RM Reg16) (imm : Word) (s : State) : Result := .next (aluEwIw .or m imm s)

/-- AND Ew Iw (42_logic_shift.md R601). -/
def execAndEwIw (m : RM Reg16) (imm : Word) (s : State) : Result := .next (aluEwIw .and m imm s)

/-- XOR Ew Iw (42_logic_shift.md R603). -/
def execXorEwIw (m : RM Reg16) (imm : Word) (s : State) : Result := .next (aluEwIw .xor m imm s)

/-- OR Ew Ibs (42_logic_shift.md R602). -/
def execOrEwIbs (m : RM Reg16) (imm : Byte) (s : State) : Result := .next (aluEwIw .or m (sext16 imm) s)

/-- AND Ew Ibs (42_logic_shift.md R601). -/
def execAndEwIbs (m : RM Reg16) (imm : Byte) (s : State) : Result := .next (aluEwIw .and m (sext16 imm) s)

/-- XOR Ew Ibs (42_logic_shift.md R603). -/
def execXorEwIbs (m : RM Reg16) (imm : Byte) (s : State) : Result := .next (aluEwIw .xor m (sext16 imm) s)

/-- TEST Eb Gb (42_logic_shift.md R604). -/
def execTestEbGb (m : RM Reg8) (g : Reg8) (s : State) : Result := .next (aluEbGb .test m g s)

/-- TEST Ew Gw (42_logic_shift.md R604). -/
def execTestEwGw (m : RM Reg16) (g : Reg16) (s : State) : Result := .next (aluEwGw .test m g s)

/-- TEST AL Ib (42_logic_shift.md R604). -/
def execTestALIb (imm : Byte) (s : State) : Result := .next (aluALIb .test imm s)

/-- TEST AX Iw (42_logic_shift.md R604). -/
def execTestAXIw (imm : Word) (s : State) : Result := .next (aluAXIw .test imm s)

/-- ROL Eb 1 (42_logic_shift.md R608). -/
def execRolEb1 (m : RM Reg8) (s : State) : Result := .next (shiftRM8 .rol 1 m s)

/-- ROR Eb 1 (42_logic_shift.md R609). -/
def execRorEb1 (m : RM Reg8) (s : State) : Result := .next (shiftRM8 .ror 1 m s)

/-- RCL Eb 1 (42_logic_shift.md R610). -/
def execRclEb1 (m : RM Reg8) (s : State) : Result := .next (shiftRM8 .rcl 1 m s)

/-- RCR Eb 1 (42_logic_shift.md R611). -/
def execRcrEb1 (m : RM Reg8) (s : State) : Result := .next (shiftRM8 .rcr 1 m s)

/-- SHL Eb 1 (42_logic_shift.md R612). -/
def execShlEb1 (m : RM Reg8) (s : State) : Result := .next (shiftRM8 .shl 1 m s)

/-- SHR Eb 1 (42_logic_shift.md R613). -/
def execShrEb1 (m : RM Reg8) (s : State) : Result := .next (shiftRM8 .shr 1 m s)

/-- SAR Eb 1 (42_logic_shift.md R614). -/
def execSarEb1 (m : RM Reg8) (s : State) : Result := .next (shiftRM8 .sar 1 m s)

/-- ROL Ew 1 (42_logic_shift.md R608). -/
def execRolEw1 (m : RM Reg16) (s : State) : Result := .next (shiftRM16 .rol 1 m s)

/-- ROR Ew 1 (42_logic_shift.md R609). -/
def execRorEw1 (m : RM Reg16) (s : State) : Result := .next (shiftRM16 .ror 1 m s)

/-- RCL Ew 1 (42_logic_shift.md R610). -/
def execRclEw1 (m : RM Reg16) (s : State) : Result := .next (shiftRM16 .rcl 1 m s)

/-- RCR Ew 1 (42_logic_shift.md R611). -/
def execRcrEw1 (m : RM Reg16) (s : State) : Result := .next (shiftRM16 .rcr 1 m s)

/-- SHL Ew 1 (42_logic_shift.md R612). -/
def execShlEw1 (m : RM Reg16) (s : State) : Result := .next (shiftRM16 .shl 1 m s)

/-- SHR Ew 1 (42_logic_shift.md R613). -/
def execShrEw1 (m : RM Reg16) (s : State) : Result := .next (shiftRM16 .shr 1 m s)

/-- SAR Ew 1 (42_logic_shift.md R614). -/
def execSarEw1 (m : RM Reg16) (s : State) : Result := .next (shiftRM16 .sar 1 m s)

/-- ROL Eb CL (42_logic_shift.md R608). -/
def execRolEbCL (m : RM Reg8) (s : State) : Result := .next (shiftRM8 .rol s.countCL m s)

/-- ROR Eb CL (42_logic_shift.md R609). -/
def execRorEbCL (m : RM Reg8) (s : State) : Result := .next (shiftRM8 .ror s.countCL m s)

/-- RCL Eb CL (42_logic_shift.md R610). -/
def execRclEbCL (m : RM Reg8) (s : State) : Result := .next (shiftRM8 .rcl s.countCL m s)

/-- RCR Eb CL (42_logic_shift.md R611). -/
def execRcrEbCL (m : RM Reg8) (s : State) : Result := .next (shiftRM8 .rcr s.countCL m s)

/-- SHL Eb CL (42_logic_shift.md R612). -/
def execShlEbCL (m : RM Reg8) (s : State) : Result := .next (shiftRM8 .shl s.countCL m s)

/-- SHR Eb CL (42_logic_shift.md R613). -/
def execShrEbCL (m : RM Reg8) (s : State) : Result := .next (shiftRM8 .shr s.countCL m s)

/-- SAR Eb CL (42_logic_shift.md R614). -/
def execSarEbCL (m : RM Reg8) (s : State) : Result := .next (shiftRM8 .sar s.countCL m s)

/-- ROL Ew CL (42_logic_shift.md R608). -/
def execRolEwCL (m : RM Reg16) (s : State) : Result := .next (shiftRM16 .rol s.countCL m s)

/-- ROR Ew CL (42_logic_shift.md R609). -/
def execRorEwCL (m : RM Reg16) (s : State) : Result := .next (shiftRM16 .ror s.countCL m s)

/-- RCL Ew CL (42_logic_shift.md R610). -/
def execRclEwCL (m : RM Reg16) (s : State) : Result := .next (shiftRM16 .rcl s.countCL m s)

/-- RCR Ew CL (42_logic_shift.md R611). -/
def execRcrEwCL (m : RM Reg16) (s : State) : Result := .next (shiftRM16 .rcr s.countCL m s)

/-- SHL Ew CL (42_logic_shift.md R612). -/
def execShlEwCL (m : RM Reg16) (s : State) : Result := .next (shiftRM16 .shl s.countCL m s)

/-- SHR Ew CL (42_logic_shift.md R613). -/
def execShrEwCL (m : RM Reg16) (s : State) : Result := .next (shiftRM16 .shr s.countCL m s)

/-- SAR Ew CL (42_logic_shift.md R614). -/
def execSarEwCL (m : RM Reg16) (s : State) : Result := .next (shiftRM16 .sar s.countCL m s)

/-- TEST Eb Ib (42_logic_shift.md R604). -/
def execTestEbIb (m : RM Reg8) (imm : Byte) (s : State) : Result := .next (aluEbIb .test m imm s)

/-- NOT Eb (42_logic_shift.md R605). -/
def execNotEb (m : RM Reg8) (s : State) : Result := .next (not8 m s)

/-- TEST Ew Iw (42_logic_shift.md R604). -/
def execTestEwIw (m : RM Reg16) (imm : Word) (s : State) : Result := .next (aluEwIw .test m imm s)

/-- NOT Ew (42_logic_shift.md R605). -/
def execNotEw (m : RM Reg16) (s : State) : Result := .next (not16 m s)

end Sys2Proof.Machine
end

