-- ==== Sys2Proof/Machine/Prefixes.lean ====
section
/-! DEFINITION. The prefixes (30_encoding.md R301, R302, 45_processor_control.md R910 to R912): each changes the record of the
instruction that follows it; the last override and the last repeat prefix win (log 10). -/

namespace Sys2Proof.Machine

/-! ### Shared operations -/

def State.setSegOverride (s : State) (r : SReg) : State := { s with eu := { s.eu with segOverride := some r } }

def State.setRepPrefix (s : State) (c : RepCond) : State := { s with eu := { s.eu with repPrefix := some c } }

def State.setLock (s : State) : State := { s with eu := { s.eu with lockActive := true } }

/-! ### The instructions -/

/-- ES: (45_processor_control.md R911). -/
def execPrefixES (s : State) : Result := .next (s.setSegOverride .es)

/-- CS: (45_processor_control.md R911). -/
def execPrefixCS (s : State) : Result := .next (s.setSegOverride .cs)

/-- SS: (45_processor_control.md R911). -/
def execPrefixSS (s : State) : Result := .next (s.setSegOverride .ss)

/-- DS: (45_processor_control.md R911). -/
def execPrefixDS (s : State) : Result := .next (s.setSegOverride .ds)

/-- LOCK (45_processor_control.md R910). -/
def execLock (s : State) : Result := .next (s.setLock)

/-- REPNE (43_string.md R701). -/
def execRepne (s : State) : Result := .next (s.setRepPrefix .repne)

/-- REP, REPE (43_string.md R701). -/
def execRep (s : State) : Result := .next (s.setRepPrefix .repe)

end Sys2Proof.Machine
end

