-- ==== Sys2Proof/Machine/Processor.lean ====
section
/-! DEFINITION. The processor control instructions (45_processor_control.md R900 to R909) and the mark of the refused
encodings (30_encoding.md R313). -/

namespace Sys2Proof.Machine

/-! ### Shared operations -/

/-- STI: INTR is not recognised at the next boundary when IF was 0 (45_processor_control.md R908). -/
def State.sti (s : State) : State :=
  { s with
    flags := { s.flags with ifl := true }
    eu := { s.eu with inhibitIntr := s.eu.inhibitIntr || !s.flags.ifl } }

/-- The Halt bus cycle of HLT: a transaction without a data transfer, what its address and data lines show being free
(20_memory.md R244, 45_processor_control.md R906; log 21). -/
def State.haltCycle (s : State) : State :=
  { s.record .halt (Config.freeHaltAddr s.draws) (Config.freeAnswer (s.draws + 1)) true with draws := s.draws + 2 }

/-- HLT: the core is halted, the Halt bus cycle runs, and the BIU fetches no more (45_processor_control.md R906,
20_memory.md R236, R244). -/
def State.hlt (s : State) : State :=
  let t := s.haltCycle
  { t with eu := { t.eu with halted := true }, biu := { t.biu with fetch := .halted } }

/-- WAIT: ends at once when TEST is asserted, else the core waits; `wait_ip` is the offset of the opcode byte
(45_processor_control.md R907). -/
def State.waitTest (s : State) : State :=
  if s.pins.test then s else { s with eu := { s.eu with waiting := true, waitIp := s.ip - 1 } }

/-- ESC: with a memory operand one read whose value is discarded, if ESC_MEM_READ says so (45_processor_control.md
R909; one byte, log 16). -/
def esc (m : RM Reg16) (s : State) : State :=
  match m with
  | .reg _ => s
  | .mem a => if s.cfg.escMemRead then (s.readB (s.eaSeg a) (s.ea a)).2 else s

/-! ### The instructions -/

/-- A refused encoding: no part of it is performed, the mark is set, and the step after this one refuses
(30_encoding.md R313, 10_state.md R123; log 9). -/
def execRefused (_op : Byte) (_bytes : List Byte) (s : State) : Result :=
  .next ({ s with refused := true })

/-- WAIT (45_processor_control.md R907). -/
def execWait (s : State) : Result := .next (s.waitTest)

/-- ESC 0 E (45_processor_control.md R909). -/
def execEsc0E (_x : BitVec 3) (m : RM Reg16) (s : State) : Result := .next (esc m s)

/-- ESC 1 E (45_processor_control.md R909). -/
def execEsc1E (_x : BitVec 3) (m : RM Reg16) (s : State) : Result := .next (esc m s)

/-- ESC 2 E (45_processor_control.md R909). -/
def execEsc2E (_x : BitVec 3) (m : RM Reg16) (s : State) : Result := .next (esc m s)

/-- ESC 3 E (45_processor_control.md R909). -/
def execEsc3E (_x : BitVec 3) (m : RM Reg16) (s : State) : Result := .next (esc m s)

/-- ESC 4 E (45_processor_control.md R909). -/
def execEsc4E (_x : BitVec 3) (m : RM Reg16) (s : State) : Result := .next (esc m s)

/-- ESC 5 E (45_processor_control.md R909). -/
def execEsc5E (_x : BitVec 3) (m : RM Reg16) (s : State) : Result := .next (esc m s)

/-- ESC 6 E (45_processor_control.md R909). -/
def execEsc6E (_x : BitVec 3) (m : RM Reg16) (s : State) : Result := .next (esc m s)

/-- ESC 7 E (45_processor_control.md R909). -/
def execEsc7E (_x : BitVec 3) (m : RM Reg16) (s : State) : Result := .next (esc m s)

/-- HLT (45_processor_control.md R906). -/
def execHlt (s : State) : Result := .next (s.hlt)

/-- CMC (45_processor_control.md R902). -/
def execCmc (s : State) : Result := .next (s.setFlags { s.flags with cf := !s.flags.cf })

/-- CLC (45_processor_control.md R900). -/
def execClc (s : State) : Result := .next (s.setFlags { s.flags with cf := false })

/-- STC (45_processor_control.md R901). -/
def execStc (s : State) : Result := .next (s.setFlags { s.flags with cf := true })

/-- CLI (45_processor_control.md R905). -/
def execCli (s : State) : Result := .next (s.setFlags { s.flags with ifl := false })

/-- STI (45_processor_control.md R908). -/
def execSti (s : State) : Result := .next (s.sti)

/-- CLD (45_processor_control.md R903). -/
def execCld (s : State) : Result := .next (s.setFlags { s.flags with df := false })

/-- STD (45_processor_control.md R904). -/
def execStd (s : State) : Result := .next (s.setFlags { s.flags with df := true })

end Sys2Proof.Machine
end

