-- ==== Sys2Proof/Machine/Strings.lean ====
section
/-! DEFINITION. The string instructions and their repetition (43_string.md R700 to R707). -/

namespace Sys2Proof.Machine

/-! ### Addressing (43_string.md R700) -/

/-- The step of an index register: 1 for a byte, 2 for a word (43_string.md R700). -/
def Width.delta : Width → Word
  | .byte => 1
  | .word => 2

/-- Step an index register by the width, down when DF is set (43_string.md R700). -/
def State.stepIndex (s : State) (w : Width) (r : Reg16) : State :=
  s.setReg16 r (if s.flags.df then s.reg16 r - Width.delta w else s.reg16 r + Width.delta w)

/-- `Read(w, seg, off)`; a byte is zero-extended (00_scope.md R11). -/
def State.readWidth (s : State) (w : Width) (seg off : Word) : Word × State :=
  match w with
  | .byte => (zext16 (s.readB seg off).1, (s.readB seg off).2)
  | .word => s.readW seg off

/-- `Write(w, seg, off, v)` of the low w bits of `v` (00_scope.md R11). -/
def State.writeWidth (s : State) (w : Width) (seg off v : Word) : State :=
  match w with
  | .byte => s.writeB seg off (loByte v)
  | .word => s.writeW seg off v

/-- The flags of `a - b` at a width (41_arithmetic.md R504). -/
def State.compareWidth (s : State) (w : Width) (a b : Word) : State :=
  match w with
  | .byte => s.aluFlags .cmp (loByte a) (loByte b)
  | .word => s.aluFlags .cmp a b

/-- AL or AX <- the low w bits of `v`. -/
def State.setAcc (s : State) (w : Width) (v : Word) : State :=
  match w with
  | .byte => s.setReg8 .al (loByte v)
  | .word => s.setReg16 .ax v

/-! ### The primitives (43_string.md R703 to R707) -/

/-- One operation of a primitive; `seg` names the segment register of the source. -/
def State.stringOp (s : State) (p : StringPrim) (w : Width) (seg : SReg) : State :=
  match p with
  | .movs =>
    let t := s.readWidth w (s.sreg seg) s.regs.si
    ((t.2.writeWidth w s.sregs.es s.regs.di t.1).stepIndex w .si).stepIndex w .di
  | .cmps =>
    let a := s.readWidth w (s.sreg seg) s.regs.si
    let b := a.2.readWidth w s.sregs.es s.regs.di
    ((b.2.compareWidth w a.1 b.1).stepIndex w .si).stepIndex w .di
  | .scas =>
    let b := s.readWidth w s.sregs.es s.regs.di
    (b.2.compareWidth w s.regs.ax b.1).stepIndex w .di
  | .lods =>
    let t := s.readWidth w (s.sreg seg) s.regs.si
    (t.2.setAcc w t.1).stepIndex w .si
  | .stos => (s.writeWidth w s.sregs.es s.regs.di s.regs.ax).stepIndex w .di

/-! ### Repetition (43_string.md R701) -/

/-- After an iteration that left ZF and CX as given, the repetition ends (43_string.md R701). -/
def RepState.ends (r : RepState) (zf : Bool) (cx : Word) : Bool :=
  ((r.prim == .cmps || r.prim == .scas) && (match r.cond with | .repe => !zf | .repne => zf)) || cx == 0

/-- `iterate()`: one iteration, CX counted down, then the test for the end (43_string.md R701). -/
def State.iterate (s : State) (r : RepState) : State :=
  let t := s.stringOp r.prim r.width r.seg
  let u := t.setReg16 .cx (t.regs.cx - 1)
  { u with eu := { u.eu with rep := if r.ends u.flags.zf u.regs.cx then none else some r } }

/-- A string instruction: one operation, or with a repeat prefix no operation when CX is 0 and else the first
iteration. `resume_ip` is the offset of the byte before the opcode byte, which is one byte long (43_string.md R701,
R702). -/
def State.string (s : State) (p : StringPrim) (w : Width) : State :=
  match s.eu.repPrefix with
  | none => s.stringOp p w (s.segReg .ds)
  | some c =>
    if s.regs.cx = 0 then s
    else s.iterate { prim := p, width := w, cond := c, seg := s.segReg .ds, resumeIp := s.ip - 2 }

/-! ### The instructions -/

/-- MOVSB (43_string.md R703). -/
def execMovsb (s : State) : Result := .next (s.string .movs .byte)

/-- MOVSW (43_string.md R703). -/
def execMovsw (s : State) : Result := .next (s.string .movs .word)

/-- CMPSB (43_string.md R704). -/
def execCmpsb (s : State) : Result := .next (s.string .cmps .byte)

/-- CMPSW (43_string.md R704). -/
def execCmpsw (s : State) : Result := .next (s.string .cmps .word)

/-- STOSB (43_string.md R707). -/
def execStosb (s : State) : Result := .next (s.string .stos .byte)

/-- STOSW (43_string.md R707). -/
def execStosw (s : State) : Result := .next (s.string .stos .word)

/-- LODSB (43_string.md R706). -/
def execLodsb (s : State) : Result := .next (s.string .lods .byte)

/-- LODSW (43_string.md R706). -/
def execLodsw (s : State) : Result := .next (s.string .lods .word)

/-- SCASB (43_string.md R705). -/
def execScasb (s : State) : Result := .next (s.string .scas .byte)

/-- SCASW (43_string.md R705). -/
def execScasw (s : State) : Result := .next (s.string .scas .word)

end Sys2Proof.Machine
end

