-- ==== Sys2Proof/Machine/Dispatch.lean ====
section
/-! DEFINITION. Which meaning each instruction has: one direct call per constructor of `Instr` (30_encoding.md R315). -/

namespace Sys2Proof.Machine

open Sys2Proof

/-- The meaning of an instruction in a state whose IP is already past the instruction (00_scope.md R14). -/
def exec (i : Instr) (s : State) : Host.Outcome State Fault Refusal :=
  match i with
  | .addEbGb m g => Sys2Proof.Machine.execAddEbGb m g s
  | .addEwGw m g => Sys2Proof.Machine.execAddEwGw m g s
  | .addGbEb g m => Sys2Proof.Machine.execAddGbEb g m s
  | .addGwEw g m => Sys2Proof.Machine.execAddGwEw g m s
  | .addALIb imm => Sys2Proof.Machine.execAddALIb imm s
  | .addAXIw imm => Sys2Proof.Machine.execAddAXIw imm s
  | .orEbGb m g => Sys2Proof.Machine.execOrEbGb m g s
  | .orEwGw m g => Sys2Proof.Machine.execOrEwGw m g s
  | .orGbEb g m => Sys2Proof.Machine.execOrGbEb g m s
  | .orGwEw g m => Sys2Proof.Machine.execOrGwEw g m s
  | .orALIb imm => Sys2Proof.Machine.execOrALIb imm s
  | .orAXIw imm => Sys2Proof.Machine.execOrAXIw imm s
  | .adcEbGb m g => Sys2Proof.Machine.execAdcEbGb m g s
  | .adcEwGw m g => Sys2Proof.Machine.execAdcEwGw m g s
  | .adcGbEb g m => Sys2Proof.Machine.execAdcGbEb g m s
  | .adcGwEw g m => Sys2Proof.Machine.execAdcGwEw g m s
  | .adcALIb imm => Sys2Proof.Machine.execAdcALIb imm s
  | .adcAXIw imm => Sys2Proof.Machine.execAdcAXIw imm s
  | .sbbEbGb m g => Sys2Proof.Machine.execSbbEbGb m g s
  | .sbbEwGw m g => Sys2Proof.Machine.execSbbEwGw m g s
  | .sbbGbEb g m => Sys2Proof.Machine.execSbbGbEb g m s
  | .sbbGwEw g m => Sys2Proof.Machine.execSbbGwEw g m s
  | .sbbALIb imm => Sys2Proof.Machine.execSbbALIb imm s
  | .sbbAXIw imm => Sys2Proof.Machine.execSbbAXIw imm s
  | .andEbGb m g => Sys2Proof.Machine.execAndEbGb m g s
  | .andEwGw m g => Sys2Proof.Machine.execAndEwGw m g s
  | .andGbEb g m => Sys2Proof.Machine.execAndGbEb g m s
  | .andGwEw g m => Sys2Proof.Machine.execAndGwEw g m s
  | .andALIb imm => Sys2Proof.Machine.execAndALIb imm s
  | .andAXIw imm => Sys2Proof.Machine.execAndAXIw imm s
  | .subEbGb m g => Sys2Proof.Machine.execSubEbGb m g s
  | .subEwGw m g => Sys2Proof.Machine.execSubEwGw m g s
  | .subGbEb g m => Sys2Proof.Machine.execSubGbEb g m s
  | .subGwEw g m => Sys2Proof.Machine.execSubGwEw g m s
  | .subALIb imm => Sys2Proof.Machine.execSubALIb imm s
  | .subAXIw imm => Sys2Proof.Machine.execSubAXIw imm s
  | .xorEbGb m g => Sys2Proof.Machine.execXorEbGb m g s
  | .xorEwGw m g => Sys2Proof.Machine.execXorEwGw m g s
  | .xorGbEb g m => Sys2Proof.Machine.execXorGbEb g m s
  | .xorGwEw g m => Sys2Proof.Machine.execXorGwEw g m s
  | .xorALIb imm => Sys2Proof.Machine.execXorALIb imm s
  | .xorAXIw imm => Sys2Proof.Machine.execXorAXIw imm s
  | .cmpEbGb m g => Sys2Proof.Machine.execCmpEbGb m g s
  | .cmpEwGw m g => Sys2Proof.Machine.execCmpEwGw m g s
  | .cmpGbEb g m => Sys2Proof.Machine.execCmpGbEb g m s
  | .cmpGwEw g m => Sys2Proof.Machine.execCmpGwEw g m s
  | .cmpALIb imm => Sys2Proof.Machine.execCmpALIb imm s
  | .cmpAXIw imm => Sys2Proof.Machine.execCmpAXIw imm s
  | .pushES => Sys2Proof.Machine.execPushES s
  | .popES => Sys2Proof.Machine.execPopES s
  | .pushCS => Sys2Proof.Machine.execPushCS s
  | .pushSS => Sys2Proof.Machine.execPushSS s
  | .popSS => Sys2Proof.Machine.execPopSS s
  | .pushDS => Sys2Proof.Machine.execPushDS s
  | .popDS => Sys2Proof.Machine.execPopDS s
  | .refused op bytes => Sys2Proof.Machine.execRefused op bytes s
  | .prefixES => Sys2Proof.Machine.execPrefixES s
  | .prefixCS => Sys2Proof.Machine.execPrefixCS s
  | .prefixSS => Sys2Proof.Machine.execPrefixSS s
  | .prefixDS => Sys2Proof.Machine.execPrefixDS s
  | .daa => Sys2Proof.Machine.execDaa s
  | .das => Sys2Proof.Machine.execDas s
  | .aaa => Sys2Proof.Machine.execAaa s
  | .aas => Sys2Proof.Machine.execAas s
  | .incAX => Sys2Proof.Machine.execIncAX s
  | .incCX => Sys2Proof.Machine.execIncCX s
  | .incDX => Sys2Proof.Machine.execIncDX s
  | .incBX => Sys2Proof.Machine.execIncBX s
  | .incSP => Sys2Proof.Machine.execIncSP s
  | .incBP => Sys2Proof.Machine.execIncBP s
  | .incSI => Sys2Proof.Machine.execIncSI s
  | .incDI => Sys2Proof.Machine.execIncDI s
  | .decAX => Sys2Proof.Machine.execDecAX s
  | .decCX => Sys2Proof.Machine.execDecCX s
  | .decDX => Sys2Proof.Machine.execDecDX s
  | .decBX => Sys2Proof.Machine.execDecBX s
  | .decSP => Sys2Proof.Machine.execDecSP s
  | .decBP => Sys2Proof.Machine.execDecBP s
  | .decSI => Sys2Proof.Machine.execDecSI s
  | .decDI => Sys2Proof.Machine.execDecDI s
  | .pushAX => Sys2Proof.Machine.execPushAX s
  | .pushCX => Sys2Proof.Machine.execPushCX s
  | .pushDX => Sys2Proof.Machine.execPushDX s
  | .pushBX => Sys2Proof.Machine.execPushBX s
  | .pushSP => Sys2Proof.Machine.execPushSP s
  | .pushBP => Sys2Proof.Machine.execPushBP s
  | .pushSI => Sys2Proof.Machine.execPushSI s
  | .pushDI => Sys2Proof.Machine.execPushDI s
  | .popAX => Sys2Proof.Machine.execPopAX s
  | .popCX => Sys2Proof.Machine.execPopCX s
  | .popDX => Sys2Proof.Machine.execPopDX s
  | .popBX => Sys2Proof.Machine.execPopBX s
  | .popSP => Sys2Proof.Machine.execPopSP s
  | .popBP => Sys2Proof.Machine.execPopBP s
  | .popSI => Sys2Proof.Machine.execPopSI s
  | .popDI => Sys2Proof.Machine.execPopDI s
  | .joJb rel => Sys2Proof.Machine.execJoJb rel s
  | .jnoJb rel => Sys2Proof.Machine.execJnoJb rel s
  | .jbJb rel => Sys2Proof.Machine.execJbJb rel s
  | .jaeJb rel => Sys2Proof.Machine.execJaeJb rel s
  | .jeJb rel => Sys2Proof.Machine.execJeJb rel s
  | .jneJb rel => Sys2Proof.Machine.execJneJb rel s
  | .jbeJb rel => Sys2Proof.Machine.execJbeJb rel s
  | .jaJb rel => Sys2Proof.Machine.execJaJb rel s
  | .jsJb rel => Sys2Proof.Machine.execJsJb rel s
  | .jnsJb rel => Sys2Proof.Machine.execJnsJb rel s
  | .jpJb rel => Sys2Proof.Machine.execJpJb rel s
  | .jnpJb rel => Sys2Proof.Machine.execJnpJb rel s
  | .jlJb rel => Sys2Proof.Machine.execJlJb rel s
  | .jgeJb rel => Sys2Proof.Machine.execJgeJb rel s
  | .jleJb rel => Sys2Proof.Machine.execJleJb rel s
  | .jgJb rel => Sys2Proof.Machine.execJgJb rel s
  | .addEbIb m imm => Sys2Proof.Machine.execAddEbIb m imm s
  | .orEbIb m imm => Sys2Proof.Machine.execOrEbIb m imm s
  | .adcEbIb m imm => Sys2Proof.Machine.execAdcEbIb m imm s
  | .sbbEbIb m imm => Sys2Proof.Machine.execSbbEbIb m imm s
  | .andEbIb m imm => Sys2Proof.Machine.execAndEbIb m imm s
  | .subEbIb m imm => Sys2Proof.Machine.execSubEbIb m imm s
  | .xorEbIb m imm => Sys2Proof.Machine.execXorEbIb m imm s
  | .cmpEbIb m imm => Sys2Proof.Machine.execCmpEbIb m imm s
  | .addEwIw m imm => Sys2Proof.Machine.execAddEwIw m imm s
  | .orEwIw m imm => Sys2Proof.Machine.execOrEwIw m imm s
  | .adcEwIw m imm => Sys2Proof.Machine.execAdcEwIw m imm s
  | .sbbEwIw m imm => Sys2Proof.Machine.execSbbEwIw m imm s
  | .andEwIw m imm => Sys2Proof.Machine.execAndEwIw m imm s
  | .subEwIw m imm => Sys2Proof.Machine.execSubEwIw m imm s
  | .xorEwIw m imm => Sys2Proof.Machine.execXorEwIw m imm s
  | .cmpEwIw m imm => Sys2Proof.Machine.execCmpEwIw m imm s
  | .addEwIbs m imm => Sys2Proof.Machine.execAddEwIbs m imm s
  | .orEwIbs m imm => Sys2Proof.Machine.execOrEwIbs m imm s
  | .adcEwIbs m imm => Sys2Proof.Machine.execAdcEwIbs m imm s
  | .sbbEwIbs m imm => Sys2Proof.Machine.execSbbEwIbs m imm s
  | .andEwIbs m imm => Sys2Proof.Machine.execAndEwIbs m imm s
  | .subEwIbs m imm => Sys2Proof.Machine.execSubEwIbs m imm s
  | .xorEwIbs m imm => Sys2Proof.Machine.execXorEwIbs m imm s
  | .cmpEwIbs m imm => Sys2Proof.Machine.execCmpEwIbs m imm s
  | .testEbGb m g => Sys2Proof.Machine.execTestEbGb m g s
  | .testEwGw m g => Sys2Proof.Machine.execTestEwGw m g s
  | .xchgEbGb m g => Sys2Proof.Machine.execXchgEbGb m g s
  | .xchgEwGw m g => Sys2Proof.Machine.execXchgEwGw m g s
  | .movEbGb m g => Sys2Proof.Machine.execMovEbGb m g s
  | .movEwGw m g => Sys2Proof.Machine.execMovEwGw m g s
  | .movGbEb g m => Sys2Proof.Machine.execMovGbEb g m s
  | .movGwEw g m => Sys2Proof.Machine.execMovGwEw g m s
  | .movEwES m => Sys2Proof.Machine.execMovEwES m s
  | .movEwCS m => Sys2Proof.Machine.execMovEwCS m s
  | .movEwSS m => Sys2Proof.Machine.execMovEwSS m s
  | .movEwDS m => Sys2Proof.Machine.execMovEwDS m s
  | .leaGwM g m => Sys2Proof.Machine.execLeaGwM g m s
  | .movESEw m => Sys2Proof.Machine.execMovESEw m s
  | .movSSEw m => Sys2Proof.Machine.execMovSSEw m s
  | .movDSEw m => Sys2Proof.Machine.execMovDSEw m s
  | .popEw m => Sys2Proof.Machine.execPopEw m s
  | .nop => Sys2Proof.Machine.execNop s
  | .xchgAXCX => Sys2Proof.Machine.execXchgAXCX s
  | .xchgAXDX => Sys2Proof.Machine.execXchgAXDX s
  | .xchgAXBX => Sys2Proof.Machine.execXchgAXBX s
  | .xchgAXSP => Sys2Proof.Machine.execXchgAXSP s
  | .xchgAXBP => Sys2Proof.Machine.execXchgAXBP s
  | .xchgAXSI => Sys2Proof.Machine.execXchgAXSI s
  | .xchgAXDI => Sys2Proof.Machine.execXchgAXDI s
  | .cbw => Sys2Proof.Machine.execCbw s
  | .cwd => Sys2Proof.Machine.execCwd s
  | .callAp off seg => Sys2Proof.Machine.execCallAp off seg s
  | .wait => Sys2Proof.Machine.execWait s
  | .pushf => Sys2Proof.Machine.execPushf s
  | .popf => Sys2Proof.Machine.execPopf s
  | .sahf => Sys2Proof.Machine.execSahf s
  | .lahf => Sys2Proof.Machine.execLahf s
  | .movALOb off => Sys2Proof.Machine.execMovALOb off s
  | .movAXOw off => Sys2Proof.Machine.execMovAXOw off s
  | .movObAL off => Sys2Proof.Machine.execMovObAL off s
  | .movOwAX off => Sys2Proof.Machine.execMovOwAX off s
  | .movsb => Sys2Proof.Machine.execMovsb s
  | .movsw => Sys2Proof.Machine.execMovsw s
  | .cmpsb => Sys2Proof.Machine.execCmpsb s
  | .cmpsw => Sys2Proof.Machine.execCmpsw s
  | .testALIb imm => Sys2Proof.Machine.execTestALIb imm s
  | .testAXIw imm => Sys2Proof.Machine.execTestAXIw imm s
  | .stosb => Sys2Proof.Machine.execStosb s
  | .stosw => Sys2Proof.Machine.execStosw s
  | .lodsb => Sys2Proof.Machine.execLodsb s
  | .lodsw => Sys2Proof.Machine.execLodsw s
  | .scasb => Sys2Proof.Machine.execScasb s
  | .scasw => Sys2Proof.Machine.execScasw s
  | .movALIb imm => Sys2Proof.Machine.execMovALIb imm s
  | .movCLIb imm => Sys2Proof.Machine.execMovCLIb imm s
  | .movDLIb imm => Sys2Proof.Machine.execMovDLIb imm s
  | .movBLIb imm => Sys2Proof.Machine.execMovBLIb imm s
  | .movAHIb imm => Sys2Proof.Machine.execMovAHIb imm s
  | .movCHIb imm => Sys2Proof.Machine.execMovCHIb imm s
  | .movDHIb imm => Sys2Proof.Machine.execMovDHIb imm s
  | .movBHIb imm => Sys2Proof.Machine.execMovBHIb imm s
  | .movAXIw imm => Sys2Proof.Machine.execMovAXIw imm s
  | .movCXIw imm => Sys2Proof.Machine.execMovCXIw imm s
  | .movDXIw imm => Sys2Proof.Machine.execMovDXIw imm s
  | .movBXIw imm => Sys2Proof.Machine.execMovBXIw imm s
  | .movSPIw imm => Sys2Proof.Machine.execMovSPIw imm s
  | .movBPIw imm => Sys2Proof.Machine.execMovBPIw imm s
  | .movSIIw imm => Sys2Proof.Machine.execMovSIIw imm s
  | .movDIIw imm => Sys2Proof.Machine.execMovDIIw imm s
  | .retIw imm => Sys2Proof.Machine.execRetIw imm s
  | .ret => Sys2Proof.Machine.execRet s
  | .lesGwMp g a => Sys2Proof.Machine.execLesGwMp g a s
  | .ldsGwMp g a => Sys2Proof.Machine.execLdsGwMp g a s
  | .movEbIb m imm => Sys2Proof.Machine.execMovEbIb m imm s
  | .movEwIw m imm => Sys2Proof.Machine.execMovEwIw m imm s
  | .retfIw imm => Sys2Proof.Machine.execRetfIw imm s
  | .retf => Sys2Proof.Machine.execRetf s
  | .int3 => Sys2Proof.Machine.execInt3 s
  | .intIb imm => Sys2Proof.Machine.execIntIb imm s
  | .into => Sys2Proof.Machine.execInto s
  | .iret => Sys2Proof.Machine.execIret s
  | .rolEb1 m => Sys2Proof.Machine.execRolEb1 m s
  | .rorEb1 m => Sys2Proof.Machine.execRorEb1 m s
  | .rclEb1 m => Sys2Proof.Machine.execRclEb1 m s
  | .rcrEb1 m => Sys2Proof.Machine.execRcrEb1 m s
  | .shlEb1 m => Sys2Proof.Machine.execShlEb1 m s
  | .shrEb1 m => Sys2Proof.Machine.execShrEb1 m s
  | .sarEb1 m => Sys2Proof.Machine.execSarEb1 m s
  | .rolEw1 m => Sys2Proof.Machine.execRolEw1 m s
  | .rorEw1 m => Sys2Proof.Machine.execRorEw1 m s
  | .rclEw1 m => Sys2Proof.Machine.execRclEw1 m s
  | .rcrEw1 m => Sys2Proof.Machine.execRcrEw1 m s
  | .shlEw1 m => Sys2Proof.Machine.execShlEw1 m s
  | .shrEw1 m => Sys2Proof.Machine.execShrEw1 m s
  | .sarEw1 m => Sys2Proof.Machine.execSarEw1 m s
  | .rolEbCL m => Sys2Proof.Machine.execRolEbCL m s
  | .rorEbCL m => Sys2Proof.Machine.execRorEbCL m s
  | .rclEbCL m => Sys2Proof.Machine.execRclEbCL m s
  | .rcrEbCL m => Sys2Proof.Machine.execRcrEbCL m s
  | .shlEbCL m => Sys2Proof.Machine.execShlEbCL m s
  | .shrEbCL m => Sys2Proof.Machine.execShrEbCL m s
  | .sarEbCL m => Sys2Proof.Machine.execSarEbCL m s
  | .rolEwCL m => Sys2Proof.Machine.execRolEwCL m s
  | .rorEwCL m => Sys2Proof.Machine.execRorEwCL m s
  | .rclEwCL m => Sys2Proof.Machine.execRclEwCL m s
  | .rcrEwCL m => Sys2Proof.Machine.execRcrEwCL m s
  | .shlEwCL m => Sys2Proof.Machine.execShlEwCL m s
  | .shrEwCL m => Sys2Proof.Machine.execShrEwCL m s
  | .sarEwCL m => Sys2Proof.Machine.execSarEwCL m s
  | .aamIb imm => Sys2Proof.Machine.execAamIb imm s
  | .aadIb imm => Sys2Proof.Machine.execAadIb imm s
  | .salc => Sys2Proof.Machine.execSalc s
  | .xlat => Sys2Proof.Machine.execXlat s
  | .esc0E x m => Sys2Proof.Machine.execEsc0E x m s
  | .esc1E x m => Sys2Proof.Machine.execEsc1E x m s
  | .esc2E x m => Sys2Proof.Machine.execEsc2E x m s
  | .esc3E x m => Sys2Proof.Machine.execEsc3E x m s
  | .esc4E x m => Sys2Proof.Machine.execEsc4E x m s
  | .esc5E x m => Sys2Proof.Machine.execEsc5E x m s
  | .esc6E x m => Sys2Proof.Machine.execEsc6E x m s
  | .esc7E x m => Sys2Proof.Machine.execEsc7E x m s
  | .loopneJb rel => Sys2Proof.Machine.execLoopneJb rel s
  | .loopeJb rel => Sys2Proof.Machine.execLoopeJb rel s
  | .loopJb rel => Sys2Proof.Machine.execLoopJb rel s
  | .jcxzJb rel => Sys2Proof.Machine.execJcxzJb rel s
  | .inALIb imm => Sys2Proof.Machine.execInALIb imm s
  | .inAXIb imm => Sys2Proof.Machine.execInAXIb imm s
  | .outIbAL imm => Sys2Proof.Machine.execOutIbAL imm s
  | .outIbAX imm => Sys2Proof.Machine.execOutIbAX imm s
  | .callJw rel => Sys2Proof.Machine.execCallJw rel s
  | .jmpJw rel => Sys2Proof.Machine.execJmpJw rel s
  | .jmpAp off seg => Sys2Proof.Machine.execJmpAp off seg s
  | .jmpJb rel => Sys2Proof.Machine.execJmpJb rel s
  | .inALDX => Sys2Proof.Machine.execInALDX s
  | .inAXDX => Sys2Proof.Machine.execInAXDX s
  | .outDXAL => Sys2Proof.Machine.execOutDXAL s
  | .outDXAX => Sys2Proof.Machine.execOutDXAX s
  | .lock => Sys2Proof.Machine.execLock s
  | .repne => Sys2Proof.Machine.execRepne s
  | .rep => Sys2Proof.Machine.execRep s
  | .hlt => Sys2Proof.Machine.execHlt s
  | .cmc => Sys2Proof.Machine.execCmc s
  | .testEbIb m imm => Sys2Proof.Machine.execTestEbIb m imm s
  | .notEb m => Sys2Proof.Machine.execNotEb m s
  | .negEb m => Sys2Proof.Machine.execNegEb m s
  | .mulEb m => Sys2Proof.Machine.execMulEb m s
  | .imulEb m => Sys2Proof.Machine.execImulEb m s
  | .divEb m => Sys2Proof.Machine.execDivEb m s
  | .idivEb m => Sys2Proof.Machine.execIdivEb m s
  | .testEwIw m imm => Sys2Proof.Machine.execTestEwIw m imm s
  | .notEw m => Sys2Proof.Machine.execNotEw m s
  | .negEw m => Sys2Proof.Machine.execNegEw m s
  | .mulEw m => Sys2Proof.Machine.execMulEw m s
  | .imulEw m => Sys2Proof.Machine.execImulEw m s
  | .divEw m => Sys2Proof.Machine.execDivEw m s
  | .idivEw m => Sys2Proof.Machine.execIdivEw m s
  | .clc => Sys2Proof.Machine.execClc s
  | .stc => Sys2Proof.Machine.execStc s
  | .cli => Sys2Proof.Machine.execCli s
  | .sti => Sys2Proof.Machine.execSti s
  | .cld => Sys2Proof.Machine.execCld s
  | .std => Sys2Proof.Machine.execStd s
  | .incEb m => Sys2Proof.Machine.execIncEb m s
  | .decEb m => Sys2Proof.Machine.execDecEb m s
  | .incEw m => Sys2Proof.Machine.execIncEw m s
  | .decEw m => Sys2Proof.Machine.execDecEw m s
  | .callEw m => Sys2Proof.Machine.execCallEw m s
  | .callMp a => Sys2Proof.Machine.execCallMp a s
  | .jmpEw m => Sys2Proof.Machine.execJmpEw m s
  | .jmpMp a => Sys2Proof.Machine.execJmpMp a s
  | .pushEw m => Sys2Proof.Machine.execPushEw m s

end Sys2Proof.Machine
end

