-- ==== Sys2Proof/Machine/Fetch.lean ====
section
/-! DEFINITION. The instruction stream at the architectural level: code bytes held by the BIU and read from memory
(20_memory.md R214, R229 to R231, R247, R248), and bringing the BIU to rest at the start of a step. -/

namespace Sys2Proof.Machine

/-- What a code fetch reads at a linear address: RAM its byte, an unmapped address 0xFF (20_memory.md R210), a device
region a free byte, the k-th of this step's (log 8). -/
def State.codeByte (s : State) (a : LinAddr) (k : Nat) : Byte :=
  match s.plat.kindAt a with
  | none => s.mem.read a
  | some .unmapped => Config.unmappedRead
  | some .device => Config.freeCode (s.draws + k)

/-- `n` code bytes from the offset `off` of the segment CS on, offsets modulo 2^16 (10_state.md R106). -/
def State.codeFrom (s : State) (off : Word) (k : Nat) : Nat → List Byte
  | 0 => []
  | n + 1 => s.codeByte (lin s.sregs.cs off) k :: s.codeFrom (off + 1) (k + 1) n

/-- The longest instruction without its prefixes, in bytes (30_encoding.md R300). -/
def maxLength : Nat := 6

/-- The bytes the decoder sees: those the BIU holds, then those it fetches next, from its fetch pointer on
(20_memory.md R231). -/
def State.window (s : State) : List Byte :=
  s.biu.held ++ s.codeFrom s.biu.pc 0 (maxLength - s.biu.held.length)

/-- Put bytes into the preload slot and the queue, the first into the preload slot (20_memory.md R231). -/
def Biu.setHeld (b : Biu) (l : List Byte) : Biu := { b with preload := l.head?, queue := l.tail }

/-- Take `n` bytes of the instruction stream: IP moves past them, and so does the fetch pointer past those that were
not held (10_state.md R106, R107). -/
def State.consume (s : State) (n : Nat) : State :=
  { s with
    ip := s.ip + BitVec.ofNat 16 n
    biu := { s.biu.setHeld (s.biu.held.drop n) with pc := s.biu.pc + BitVec.ofNat 16 (n - s.biu.held.length) }
    draws := s.draws + maxLength }

/-- The most bytes the BIU holds: the queue and the preload slot (20_memory.md R214). -/
def maxHeld : Nat := Config.queueSize + 1

/-- How many bytes the BIU fetches ahead when `n` are asked for: no more than there is room for, none while fetching
is halted or suspended (20_memory.md R214, R236). -/
def Biu.fetchable (b : Biu) (n : Nat) : Nat :=
  if b.fetch = .halted ∨ b.fetch = .suspended then 0 else min n (maxHeld - b.held.length)

/-- The BIU fetches ahead while an instruction executes; the input says how many bytes (20_memory.md R214; log 12). -/
def State.prefetch (s : State) (n : Nat) : State :=
  { s with
    biu :=
      { s.biu.setHeld (s.biu.held ++ s.codeFrom s.biu.pc 0 (s.biu.fetchable n)) with
        pc := s.biu.pc + BitVec.ofNat 16 (s.biu.fetchable n) }
    draws := s.draws + maxHeld }

/-- Held bytes, where the mask says so replaced by what memory holds now; `off` is the offset of the first. -/
def State.refetchBytes (s : State) : List Bool → List Byte → Word → Nat → List Byte
  | _, [], _, _ => []
  | [], bs, _, _ => bs
  | m :: ms, b :: bs, off, k =>
    (if m then s.codeByte (lin s.sregs.cs off) k else b) :: s.refetchBytes ms bs (off + 1) (k + 1)

/-- The BIU fetched some of the bytes it holds only after the instruction's stores; the input says which
(20_memory.md R214; log 12). -/
def State.refetch (s : State) (mask : List Bool) : State :=
  { s with
    biu := s.biu.setHeld (s.refetchBytes mask s.biu.held (s.biu.pc - BitVec.ofNat 16 s.biu.held.length) 0)
    draws := s.draws + maxHeld }

/-- The code fetch in progress is one whose byte will enter the queue. -/
def Biu.codeExpected (b : Biu) : Bool := b.codeInFlight && !b.discarded

/-- The architectural IP at a boundary, by the BIU (20_memory.md R247). -/
def Biu.derivedIp (b : Biu) : Word :=
  b.pc - BitVec.ofNat 16 (b.held.length + if b.codeExpected then 1 else 0)

/-- The fetch states that last across a step: halted and suspended (20_memory.md R236). -/
def FetchState.settled : FetchState → FetchState
  | .halted => .halted
  | .suspended => .suspended
  | _ => .normal

/-- Bring the BIU to rest: a code fetch in progress delivers its byte (20_memory.md R229), which its T3 has read or
which is read now; an address cycle that has not had its T1 is dropped, PC not having moved for it (20_memory.md R240,
R248); no EU request is outstanding at a boundary (log 1). -/
def State.settle (s : State) : State :=
  let b := s.biu
  let byte := if b.tState = .tw ∨ b.tState = .t4 then b.data else s.codeByte b.addr 0
  let q := if b.codeExpected then b.queue ++ [byte] else b.queue
  { s with
    biu :=
      { Biu.idle b.pc with
        queue := q
        preload := b.preload
        fetch := b.fetch.settled
        lockHeld := b.lockHeld
        lockSignal := b.lockSignal
        delivered := b.delivered
        elapsed := b.elapsed }
    draws := s.draws + 1 }

end Sys2Proof.Machine
end

