-- ==== Sys2Proof/Machine/Sequence.lean ====
section
/-! DEFINITION. The execution sequence of one architectural step (30_encoding.md R315, R316): sampling the inputs, the
boundary check, the next iteration of a repeated string instruction, or the prefixes and the instruction at CS:IP; and
the reset action (70_reset_and_hazards.md R1100). -/

namespace Sys2Proof.Machine

/-! ### The start of a step -/

/-- The inputs of this step (log 6). -/
def State.nextInput (s : State) : StepInput := s.inputs.headD StepInput.idle

/-- Sample the inputs, latch an edge of NMI (10_state.md R115, 60_exceptions.md R1020), and bring the BIU to rest; the
microcode program counter takes an unspecified value (30_encoding.md R319). -/
def State.beginStep (s : State) : State :=
  let t := s.settle
  { t with
    inputs := s.inputs.tail
    pins := s.nextInput
    bus := []
    eu := { s.eu with nmiLatch := s.eu.nmiLatch || s.nextInput.nmi, mcPc := Config.freeMcPc t.draws }
    draws := t.draws + 1 }

/-! ### Reset (70_reset_and_hazards.md R1100) -/

/-- RESET asserted: everything of the core to its reset value, each general register a fresh free value (10_state.md
R125); memory, the platform and the inputs are not touched (log 26). -/
def State.resetAction (s : State) : State :=
  let f := fun k => Config.freeWord (s.draws + k)
  { s with
    regs := { ax := f 0, bx := f 1, cx := f 2, dx := f 3, sp := f 4, bp := f 5, si := f 6, di := f 7 }
    sregs := SRegs.reset
    ip := Config.resetIP
    flags := Flags.clear
    eu := { Eu.idle with mcPc := s.eu.mcPc }
    biu := Biu.idle Config.resetIP
    draws := s.draws + 8 }

/-! ### One instruction with its prefixes -/

/-- The record is empty, and `trap_armed` is TF (30_encoding.md R315, R316). -/
def State.beginInstruction (s : State) : State :=
  { s with
    eu := { s.eu with trapArmed := s.flags.tf, lockActive := false, segOverride := none, repPrefix := none } }

/-- Set the mark of a refused encoding (10_state.md R123). -/
def State.markRefused (s : State) : State := { s with refused := true }

/-- Run an instruction that is no prefix, its bytes consumed: refused if R313 refuses it under the repeat prefix, else
its meaning, while the BIU fetches ahead. -/
def State.runDecoded (s : State) (i : Instr) : Result :=
  if s.eu.repPrefix.isSome && i.refusedUnderRepeat then .next s.markRefused
  else exec i (s.prefetch s.pins.prefetch)

/-- Decode at CS:IP and run: a prefix changes the record and decoding goes on (30_encoding.md R302, R316), in the next
step where this one has read `prefixLimit` prefixes (70_reset_and_hazards.md R1115; log 11). -/
def State.runFrom : Nat → State → Result
  | 0, s => .next { s with eu := { s.eu with decoding := true } }
  | n + 1, s =>
    match decode s.window with
    | .error _ => .fault .codeTruncated
    | .ok (i, rest) =>
      let t := s.consume (s.window.length - rest.length)
      if i.isPrefix then
        match exec i t with
        | .next u => State.runFrom n u
        | .fault r => .fault r
        | .refused r => .refused r
      else t.runDecoded i

/-- The most prefix bytes one step reads: as many as a code segment holds (log 11). -/
def prefixLimit : Nat := 2 ^ 16

/-- The EU's latches at the end of a step: the record is destroyed, the lock released unless a repetition goes on
(10_state.md R116, 20_memory.md R245, 45_processor_control.md R910; log 13). -/
def Eu.ended (e : Eu) : Eu :=
  { e with lockActive := e.lockActive && e.rep.isSome, segOverride := none, repPrefix := none }

/-- The end of a step: of its record and lock, and the bytes the BIU fetched late are read. -/
def State.endStep (s : State) : State :=
  let t := s.refetch s.pins.refetch
  { t with
    eu := s.eu.ended
    biu := { t.biu with lockHeld := s.eu.ended.lockActive, lockSignal := s.eu.ended.lockActive } }

/-- A step that met a refused encoding performs no part of the instruction (30_encoding.md R313); one inside a prefix run
reaches no boundary (70_reset_and_hazards.md R1115); any other ends. -/
def finish (start : State) : Result → Result
  | .next t => if t.refused then .next start.markRefused else if t.eu.decoding then .next t else .next t.endStep
  | .fault r => .fault r
  | .refused r => .refused r

/-- The instruction at CS:IP (30_encoding.md R315). -/
def State.runInstruction (s : State) : Result :=
  finish s (State.runFrom prefixLimit s.beginInstruction)

/-- The next bytes of a prefix run: no boundary, so no interrupt is recognised (70_reset_and_hazards.md R1115; log 11). -/
def State.resumeDecoding (s : State) : Result :=
  finish s (State.runFrom prefixLimit { s with eu := { s.eu with decoding := false } })

/-! ### The other steps -/

/-- TEST is sampled: the wait ends when it is asserted (45_processor_control.md R907). -/
def State.sampleTest (s : State) : State :=
  if s.pins.test then { s with eu := { s.eu with waiting := false } } else s

/-- What follows the boundary check when no interrupt was taken (30_encoding.md R315): nothing while halted
(60_exceptions.md R1060), a sample of TEST while waiting, the BIU prefetching, the next iteration of a repeated string instruction, or the
next instruction. -/
def State.proceed (s : State) : Result :=
  if s.eu.halted then .next s
  else if s.eu.waiting then .next (s.prefetch s.pins.prefetch).sampleTest
  else
    match s.eu.rep with
    | some r => .next ((s.prefetch s.pins.prefetch).iterate r).endStep
    | none => s.runInstruction

/-- One architectural step whose inputs are sampled (30_encoding.md R315). -/
def State.runStep (s : State) : Result :=
  if s.pins.reset then .next s.resetAction
  else if s.eu.decoding then s.resumeDecoding
  else
    let c := s.boundaryCheck
    if c.1 then .next c.2.endStep else c.2.proceed

/-! ### Placing an instruction -/

/-- A region and an address: the region does not cover it. -/
def Region.misses (r : Region) (a : LinAddr) : Bool := !r.covers a

/-- Put bytes at an offset of the code segment, as RAM. -/
def State.placeCode (s : State) : Word → List Byte → State
  | _, [] => s
  | off, b :: bs =>
    let a := lin s.sregs.cs off
    let t : State :=
      { s with
        mem := s.mem.write a b
        plat := { s.plat with regions := s.plat.regions.filter fun r => r.misses a } }
    t.placeCode (off + 1) bs

/-- The next step decodes afresh at CS:IP: the BIU holds nothing and nothing else is in progress or pending. -/
def State.readyToFetch (s : State) : State :=
  { s with
    biu := Biu.idle s.ip
    eu :=
      { s.eu with
        halted := false, waiting := false, rep := none, nmiLatch := false, trapArmed := false, inhibitAll := false,
        inhibitIntr := false, decoding := false }
    inputs := []
    refused := false }

end Sys2Proof.Machine
end

