-- ==== Sys2Proof/Machine/Step.lean ====
section
/-! DEFINITION. One architectural step of the machine (30_encoding.md R315), and placing an instruction where the next
step fetches it. -/

namespace Sys2Proof.Machine

/-- One step: after a refused encoding nothing more is said (10_state.md R123); else the inputs are sampled and the step
is run. -/
def step (s : State) : Host.Outcome State Fault Refusal :=
  if s.refused then .refused .unsupportedOpcode else s.beginStep.runStep

/-- The state with a word of the opcode table stored at CS:IP, and nothing in the way of the next step running it
(log 18, log 19). -/
def State.withFetchWord (s : State) (nbits w : Nat) : State :=
  s.readyToFetch.placeCode s.ip (tableBytes tableSpan nbits w)

end Sys2Proof.Machine
end

