-- ==== Sys2Proof/Machine/Biu.lean ====
section
/-! DEFINITION. The Bus Interface Unit at the bus-cycle level (00_scope.md R7): one T-state tick over the same state, in the
order of 20_memory.md R253. The EU's actions and the fabric's answer are arguments of the tick (20_memory.md R221, R249;
Machine/Cycle.lean says which actions an instruction makes); the per-cycle record (R250) is its second result. -/

namespace Sys2Proof.Machine

/-! ### Inputs and output of a tick -/

/-- The kinds of an EU transfer: never a code fetch (20_memory.md R222). -/
inductive EuKind where
  | memRead | memWrite | ioRead | ioWrite | intAck
  deriving DecidableEq, Repr

/-- The transaction kind of a transfer. -/
def EuKind.status : EuKind → BusStatus
  | .memRead => .memRead
  | .memWrite => .memWrite
  | .ioRead => .ioRead
  | .ioWrite => .ioWrite
  | .intAck => .intAck

/-- What the EU asks of the BIU in a tick (20_memory.md R220, R231, R236, R244). -/
inductive EuAction where
  /-- take the first byte of an instruction, which may be a prefix, from the preload slot or the queue (R231, R252) -/
  | popFirst
  /-- take the byte after a prefix from the queue: a further prefix or the opcode byte (R231, R252) -/
  | popAfterPrefix
  /-- take another instruction byte from the queue (R231, R252) -/
  | popNext
  /-- `fetch_next()`: move the head of the queue into the preload slot (R220, R231) -/
  | fetchNext
  /-- a transfer of width `w` whose bytes are at `a` and, for a word, at `b`; `v` is the data of a write (R205, R207,
  R228, R243) -/
  | transfer (k : EuKind) (w : Width) (a b : LinAddr) (v : Word)
  | flush (ip : Word)
  | suspend
  | resume
  | fetchHalt
  /-- `halt()`, with what the address and data lines show in the pulse (R244; log 21) -/
  | halt (a : LinAddr) (v : Byte)
  deriving DecidableEq, Repr

/-- `read_u8/u16(seg, offset)` (20_memory.md R203, R205, R220). -/
def EuAction.readMem (w : Width) (seg off : Word) : EuAction :=
  .transfer .memRead w (lin seg off) (lin seg (off + 1)) 0

/-- `write_u8/u16(seg, offset, value)` (20_memory.md R203, R205, R220). -/
def EuAction.writeMem (w : Width) (seg off v : Word) : EuAction :=
  .transfer .memWrite w (lin seg off) (lin seg (off + 1)) v

/-- `io_read_u8/u16(port)` (20_memory.md R207, R220). -/
def EuAction.readIo (w : Width) (port : Word) : EuAction :=
  .transfer .ioRead w (portAddr port) (portAddr (port + 1)) 0

/-- `io_write_u8/u16(port, value)` (20_memory.md R207, R220). -/
def EuAction.writeIo (w : Width) (port v : Word) : EuAction :=
  .transfer .ioWrite w (portAddr port) (portAddr (port + 1)) v

/-- `inta(vector)`: two transactions like the halves of a word, whose addresses are not specified (20_memory.md R220, R227,
R243). -/
def EuAction.inta (a b : LinAddr) : EuAction := .transfer .intAck .word a b 0

/-- The call of the fabric a T3 tick makes (20_memory.md R221): by its kind `read_u8`, `write_u8`, `io_read_u8`,
`io_write_u8`, or the acknowledge of the interrupt controller (R243); the address (a port in bits 15 to 0), the byte of a
write, and the ticks since the previous call. -/
structure FabricCall where
  kind : BusStatus
  addr : LinAddr
  data : Byte
  elapsed : Nat
  deriving DecidableEq, Repr

/-- The fabric's answer to the call a T3 tick makes: the byte a device, a port or the interrupt controller gives, and
the wait states (20_memory.md R221, R224). -/
structure FabricAnswer where
  data : Byte
  waits : Nat
  deriving DecidableEq, Repr

/-- Queue operations (20_memory.md R252). -/
inductive QueueOp where
  | idle | first | subsequent | flush
  deriving DecidableEq, Repr

/-- The 8288's outputs in a tick (20_memory.md R225, R226): MRDC, MWTC, IORC, IOWC, AMWC, AIOWC and ALE, which the record
names one by one, and the INTA command. These eight are also what the model takes the record's "8288 state" (R250) to
hold: the spec does not list its parts (DESIGN CHOICE, log 30). -/
structure BusSignals where
  mrdc : Bool
  mwtc : Bool
  iorc : Bool
  iowc : Bool
  amwc : Bool
  aiowc : Bool
  inta : Bool
  ale : Bool
  deriving DecidableEq, Repr

/-- The per-cycle record (10_state.md R122, 20_memory.md R250). Its "i8288 state snapshot", whose parts the spec does not
give, has no field of its own: the model takes it to be `signals`, the 8288's command outputs with INTA and ALE (DESIGN
CHOICE, log 30). R227 says what `addr` shows in T1, and `data` from T3 of a read to its last Tw and from T2 to T4 of a write;
in every other tick what they show is the model's choice (DESIGN CHOICE, log 31). -/
structure CycleRecord where
  addr : LinAddr
  data : Byte
  tState : TState
  ta : TaState
  queueOp : QueueOp
  queueLen : Nat
  status : BusStatus
  signals : BusSignals
  lock : Bool
  deriving DecidableEq, Repr

/-- The status pins S2 S1 S0 (20_memory.md R222). -/
def BusStatus.pins : BusStatus → BitVec 3
  | .intAck => 0
  | .ioRead => 1
  | .ioWrite => 2
  | .halt => 3
  | .codeFetch => 4
  | .memRead => 5
  | .memWrite => 6
  | .passive => 7

/-- The queue status pins QS1 QS0 (20_memory.md R252). -/
def QueueOp.pins : QueueOp → BitVec 2
  | .idle => 0
  | .first => 1
  | .flush => 2
  | .subsequent => 3

/-- The command signals of a status in a T-state, and ALE (20_memory.md R225, R226). -/
def busSignals (status : BusStatus) (t : TState) : BusSignals :=
  let early := t == .t2 || t == .t3 || t == .tw
  let late := t == .t3 || t == .tw
  { mrdc := (status == .codeFetch || status == .memRead) && early
    mwtc := status == .memWrite && late
    iorc := status == .ioRead && early
    iowc := status == .ioWrite && late
    amwc := status == .memWrite && early
    aiowc := status == .ioWrite && early
    inta := status == .intAck && early
    ale := t == .t1 }

/-! ### Step 1: the EU's actions -/

/-- Fetch state after an EU pop that leaves `len` bytes (20_memory.md R234, R235). -/
def FetchState.afterPop (f : FetchState) (len : Nat) : FetchState :=
  match f with
  | .pausedFull => .normal
  | .delayed n => if len < Config.fetchPolicyLen then .normal else .delayed n
  | f => f

/-- What the EU does in a tick: the BIU after it, the queue operation (20_memory.md R252), the instruction bytes it takes,
and whether it has spent the tick. -/
structure EuTick where
  biu : Biu
  op : QueueOp
  taken : List Byte
  spent : Bool
  deriving DecidableEq, Repr

/-- A read of the queue: it takes the head and this tick, or waits, ticking, while the queue is empty (20_memory.md
R231). The first byte of an instruction and every prefix are First, any other byte is Subsequent, an opcode byte after a
prefix too (R252, 30_encoding.md R300). -/
def Biu.readQueue (b : Biu) (q : QueueRead) : EuTick :=
  match b.queue with
  | [] => { biu := { b with queueWait := some q }, op := .idle, taken := [], spent := true }
  | v :: rest =>
    let b' : Biu := { b with queue := rest, fetch := b.fetch.afterPop rest.length, queueWait := none }
    match q with
    | .first => { biu := b', op := .first, taken := [v], spent := true }
    | .afterPrefix =>
      { biu := b', op := if isPrefixByte v then .first else .subsequent, taken := [v], spent := true }
    | .next => { biu := b', op := .subsequent, taken := [v], spent := true }
    | .fetchNext => { biu := { b' with preload := some v }, op := .first, taken := [], spent := true }

/-- An EU request is outstanding: it waits, owns the address cycle, is committed or on the bus up to its T4, or its second
byte or the halt pulse is still to come. The EU is blocked in it (20_memory.md R220; log 20). -/
def Biu.euBusy (b : Biu) : Bool :=
  b.euWaiting.isSome || b.nextHalf.isSome || (b.owner.isSome && !Request.isCode b.owner) ||
    (b.committed.isSome && !Request.isCode b.committed) || b.haltPending.isSome ||
    (b.status != .codeFetch && (b.tState == .t2 || b.tState == .t3 || b.tState == .tw || b.tState == .t4))

/-- The EU may act: it is held neither in a read of the queue nor in a transfer (20_memory.md R220, R231). -/
def Biu.euFree (b : Biu) : Bool := b.queueWait.isNone && !b.euBusy

/-- The last transaction of an EU transfer is committed or on the bus (20_memory.md R228). -/
def Biu.inLastTransaction (b : Biu) : Bool :=
  match b.committed with
  | some r => r.kind != .codeFetch && r.kind != .halt && r.finalTransfer
  | none =>
    b.status != .codeFetch && b.finalTransfer &&
      (b.tState == .t2 || b.tState == .t3 || b.tState == .tw || b.tState == .t4)

/-- The class of an EU request made in a tick of T-state `t` (20_memory.md R238). -/
def Biu.classify (b : Biu) (t : TState) : Pending :=
  match t with
  | .tinit => .euEarly
  | .t1 => .euEarly
  | .t2 => .euEarly
  | .t3 => .euLate
  | .tw => .euLate
  | .t4 => .euLate
  | .ti => if b.codeAddressing then .euLate else .euEarly

/-- An EU request for one or two byte transactions. A late one aborts a code-fetch address cycle, with its penalty
(20_memory.md R238 to R240). -/
def Biu.request (b : Biu) (t : TState) (first : Request) (second : Option Request) : Biu :=
  let c := b.classify t
  let abort := c == .euLate && b.codeAddressing
  { b with
    euWaiting := some first
    nextHalf := second
    pending := c
    owner := if abort then none else b.owner
    abortLeft := if abort then Config.abortPenalty else b.abortLeft }

/-- The first transaction of a transfer of width `w` (20_memory.md R228). -/
def Request.first (k : EuKind) (w : Width) (a : LinAddr) (v : Word) : Request :=
  { kind := k.status, addr := a, data := loByte v, operandSize := w, transferN := 1, finalTransfer := w == .byte }

/-- The second transaction of a transfer, for a word (20_memory.md R228). -/
def Request.second (k : EuKind) (w : Width) (b : LinAddr) (v : Word) : Option Request :=
  match w with
  | .byte => none
  | .word =>
    some
      { kind := k.status, addr := b, data := hiByte v, operandSize := .word, transferN := 2, finalTransfer := true }

/-- The halt pulse as a transaction of one tick (20_memory.md R244). Its transfer fields are those of a byte's transaction:
R228 and R244 give the pulse none (DESIGN CHOICE, log 21). -/
def Request.haltPulse (a : LinAddr) (v : Byte) : Request :=
  { kind := .halt, addr := a, data := v, operandSize := .byte, transferN := 1, finalTransfer := true }

/-- One EU action in a tick of T-state `t` (20_memory.md R253, step 1). A byte taken from the preload slot, and a change of
the fetch state, cost no tick (20_memory.md R231). HLT ends code fetches, so its halt pulse does not wait for one that has
no T1 yet (20_memory.md R244, 45_processor_control.md R906; log 20). `fetch_next()` with the preload slot full does nothing
and costs no tick, where R220 and R231 say nothing (DESIGN CHOICE, log 20). -/
def Biu.act (b : Biu) (t : TState) : EuAction → EuTick
  | .popFirst =>
    match b.preload with
    | some v => { biu := { b with preload := none }, op := .idle, taken := [v], spent := false }
    | none => b.readQueue .first
  | .popAfterPrefix => b.readQueue .afterPrefix
  | .popNext => b.readQueue .next
  | .fetchNext =>
    match b.preload with
    | some _ => { biu := b, op := .idle, taken := [], spent := false }
    | none => b.readQueue .fetchNext
  | .transfer k w x y v =>
    { biu := b.request t (Request.first k w x v) (Request.second k w y v), op := .idle, taken := [], spent := true }
  | .flush ip => { biu := b.flush ip, op := .flush, taken := [], spent := true }
  | .suspend =>
    { biu := { b with fetch := if b.fetch = .halted then .halted else .suspended }, op := .idle, taken := [],
      spent := false }
  | .resume =>
    { biu := { b with fetch := if b.fetch = .suspended then .normal else b.fetch }, op := .idle, taken := [],
      spent := false }
  | .fetchHalt => { biu := { b with fetch := .halted }, op := .idle, taken := [], spent := false }
  | .halt a v =>
    { biu := { b.cancelCode with fetch := .halted, haltPending := some (Request.haltPulse a v) }, op := .idle, taken := [],
      spent := true }

/-- The EU can make the action: it is not blocked in a transfer, but for `fetch_next()` during the last transaction of one
(20_memory.md R220, 30_encoding.md R318). -/
def Biu.accepts (b : Biu) (a : EuAction) : Bool := !b.euBusy || (a == .fetchNext && b.inLastTransaction)

/-- The EU's actions, in order, up to the first that spends the tick or that it cannot make. -/
def Biu.actAll (b : Biu) (t : TState) : List EuAction → EuTick
  | [] => { biu := b, op := .idle, taken := [], spent := false }
  | a :: as =>
    if b.accepts a then
      let r := b.act t a
      if r.spent then r
      else
        let r' := r.biu.actAll t as
        { r' with taken := r.taken ++ r'.taken }
    else { biu := b, op := .idle, taken := [], spent := true }

/-- The EU in a tick of T-state `t`: a read of the queue it is held in goes on, else its actions are made (20_memory.md R220,
R231, R253). -/
def Biu.euStep (b : Biu) (t : TState) (acts : List EuAction) : EuTick :=
  match b.queueWait with
  | some q => b.readQueue q
  | none => b.actAll t acts

/-! ### Step 2: the bus actions of the T-state -/

/-- T1: the committed transaction is latched, and PC moves for a code fetch that no flush has discarded (20_memory.md
R230, R241, R248; log 20). The data latched, which the record shows in T1 and T2, is a write's byte, and 0 for a read or a
code fetch, where R227 gives none before T3 (DESIGN CHOICE, log 31). -/
def Biu.tickT1 (b : Biu) : Biu :=
  match b.committed with
  | none => b
  | some r =>
    { b with
      committed := none
      status := r.kind
      addr := r.addr
      data := r.data
      transferSize := .byte
      operandSize := r.operandSize
      transferN := r.transferN
      finalTransfer := r.finalTransfer
      waitRemaining := 0
      pc := if r.kind = .codeFetch ∧ b.discarded = false then b.pc + 1 else b.pc }

/-- T2: the second byte of a pair is requested, early (20_memory.md R242). -/
def Biu.tickT2 (b : Biu) : Biu :=
  if b.finalTransfer then b
  else
    match b.nextHalf with
    | none => b
    | some r => { b with euWaiting := some r, nextHalf := none, pending := .euEarly }

/-- The kinds whose fabric call returns wait states (20_memory.md R224). -/
def BusStatus.isMemory : BusStatus → Bool
  | .codeFetch => true
  | .memRead => true
  | .memWrite => true
  | _ => false

/-- The byte a memory transaction reads (20_memory.md R210). -/
def State.fabricMem (s : State) (a : FabricAnswer) : Byte :=
  match s.plat.kindAt s.biu.addr with
  | none => s.mem.read s.biu.addr
  | some .unmapped => Config.unmappedRead
  | some .device => a.data

/-- The byte a read gets from memory, a port, or the interrupt controller (20_memory.md R210, R243). -/
def State.fabricRead (s : State) (a : FabricAnswer) : Byte :=
  match s.biu.status with
  | .codeFetch => s.fabricMem a
  | .memRead => s.fabricMem a
  | .ioRead => if s.plat.claims (s.biu.addr.setWidth 16) then a.data else Config.unmappedRead
  | .intAck => a.data
  | _ => s.biu.data

/-- The fabric call of a tick, in T3 (20_memory.md R221, R224). -/
def State.fabricCall (s : State) : Option FabricCall :=
  if s.biu.tState = .t3 then
    some { kind := s.biu.status, addr := s.biu.addr, data := s.biu.data, elapsed := s.biu.elapsed }
  else none

/-- T3: what the fabric's answer does (20_memory.md R221, R224). -/
def State.tickT3 (s : State) (a : FabricAnswer) : State :=
  { s with
    biu := { s.biu with data := s.fabricRead a, waitRemaining := if s.biu.status.isMemory then a.waits else 0 }
    mem :=
      if s.biu.status = .memWrite ∧ s.plat.kindAt s.biu.addr = none then s.mem.write s.biu.addr s.biu.data
      else s.mem }

/-- The kinds whose byte is delivered to the EU (20_memory.md R227). -/
def BusStatus.isEuRead : BusStatus → Bool
  | .memRead => true
  | .ioRead => true
  | .intAck => true
  | _ => false

/-- What the EU has after this transaction: a byte, a word of two transactions assembled; the two bytes of INTA are no word
(20_memory.md R220, R227, R243). -/
def Biu.assemble (b : Biu) : Word :=
  if b.transferN = 2 ∧ b.status ≠ .intAck then wordOf (loByte b.delivered) b.data else zext16 b.data

/-- T4: a code byte enters the queue unless a flush discarded it (20_memory.md R229, R230); any other transaction's byte
goes to the EU, and PausedFull ends (R227, R235). -/
def Biu.tickT4 (b : Biu) : Biu :=
  if b.status = .codeFetch then
    { b with queue := if b.discarded then b.queue else b.queue ++ [b.data], discarded := false }
  else
    { b with
      delivered := if b.status.isEuRead then b.assemble else b.delivered
      fetch := if b.fetch = .pausedFull then .normal else b.fetch }

/-- The bus actions of a T-state (20_memory.md R253, step 2). -/
def State.busActions (s : State) (t : TState) (a : FabricAnswer) : State :=
  match t with
  | .t1 => { s with biu := s.biu.tickT1 }
  | .t2 => { s with biu := s.biu.tickT2 }
  | .t3 => s.tickT3 a
  | .tw => { s with biu := { s.biu with waitRemaining := s.biu.waitRemaining - 1 } }
  | .t4 => { s with biu := s.biu.tickT4 }
  | .tinit => s
  | .ti => s

/-! ### Steps 3 and 4: the fetch-state timer and the fetch decision -/

/-- The timer of Delayed (20_memory.md R232, R234). -/
def FetchState.tick : FetchState → FetchState
  | .delayed 0 => .normal
  | .delayed (n + 1) => .delayed n
  | f => f

/-- What the fetch decision answers. -/
inductive Decision where
  | nothing | delay | pause | start
  deriving DecidableEq, Repr

/-- The fetch decision in a tick of T-state `t` (20_memory.md R233 to R236, R242). -/
def Biu.decision (b : Biu) (t : TState) : Decision :=
  let inflight := if b.status = .codeFetch ∧ t ≠ .t4 then 1 else 0
  if b.fetch ≠ .normal then .nothing
  else if b.euWaiting.isSome || b.pending != .none then .nothing
  else if b.status ≠ .passive ∧ b.finalTransfer = false then .nothing
  else if b.ta ≠ .td then .nothing
  else if inflight = 1 ∧ b.queue.length = Config.fetchPolicyLen then .delay
  else if Config.queueSize - b.queue.length - inflight < Config.fetchMinFree then .pause
  else .start

/-- The request of a code fetch at `lin(CS, PC)` (20_memory.md R228, R248). -/
def Request.code (cs pc : Word) : Request :=
  { kind := .codeFetch, addr := lin cs pc, data := 0, operandSize := .byte, transferN := 1, finalTransfer := true }

/-- The fetch state after a decision. -/
def Decision.fetch (d : Decision) (f : FetchState) : FetchState :=
  match d with
  | .delay => .delayed Config.fetchDelay
  | .pause => .pausedFull
  | _ => f

/-! ### Step 5: the address pipeline -/

/-- `ta_cycle` of the next tick (20_memory.md R237, R239, R240). `code` is the code fetch the decision started. -/
def Biu.pipeline (b : Biu) (t : TState) (code : Option Request) : Biu :=
  if b.abortLeft ≠ 0 then { b with ta := .ta, abortLeft := b.abortLeft - 1 }
  else
    match b.ta with
    | .ta => { b with ta := .tr, owner := b.euWaiting, euWaiting := none }
    | .td =>
      match b.euWaiting, code with
      | some r, _ => { b with ta := .tr, owner := some r, euWaiting := none }
      | none, some r => { b with ta := .tr, owner := some r }
      | none, none => b
    | .tr => { b with ta := .ts }
    | _ =>
      if t = .ti ∨ t = .t4 then
        { b with
          ta := .td
          committed := b.owner
          owner := none
          pending := if Request.isCode b.owner then b.pending else .none }
      else { b with ta := .t0 }

/-! ### Step 6: the next T-state -/

/-- After T4 or in Ti: T1 of a committed transaction, up to which the status stays; else the halt pulse when nothing else
is under way; else Ti (20_memory.md R223, R241, R244). -/
def Biu.nextIdle (b : Biu) : Biu :=
  if b.committed.isSome then { b with tState := .t1 }
  else if b.haltPending.isSome && b.ta == .td && b.euWaiting.isNone then
    { b with tState := .t1, committed := b.haltPending, haltPending := none }
  else { b with status := .passive, tState := .ti }

/-- The T-state of the next tick (20_memory.md R223). -/
def Biu.nextT (b : Biu) (t : TState) : Biu :=
  match t with
  | .tinit => { b with tState := .t1 }
  | .t1 => if b.status = .halt then b.nextIdle else { b with tState := .t2 }
  | .t2 => { b with tState := .t3 }
  | .t3 => { b with tState := if 0 < b.waitRemaining then .tw else .t4 }
  | .tw => { b with tState := if 0 < b.waitRemaining then .tw else .t4 }
  | .t4 => b.nextIdle
  | .ti => b.nextIdle

/-! ### The tick (20_memory.md R253) -/

/-- One tick of the BIU, and its record. The record's address and data are those latched, also in the ticks for which R227
gives none (DESIGN CHOICE, log 31). -/
def State.busTick (s : State) (acts : List EuAction) (a : FabricAnswer) : State × CycleRecord :=
  let t := s.biu.tState
  let e := s.biu.euStep t acts
  let s1 : State := { s with biu := e.biu }
  let s2 := s1.busActions t a
  let b3 : Biu := { s2.biu with fetch := s2.biu.fetch.tick }
  let due := t == .ti || t == .t2 || s2.biu.fetch == .delayed 0
  let d := if due then b3.decision t else .nothing
  let b4 : Biu := { b3 with fetch := d.fetch b3.fetch }
  let b5 := b4.pipeline t (if d = .start then some (Request.code s.sregs.cs b4.pc) else none)
  let lock := s.biu.lockHeld || b5.status == .intAck
  let b6 : Biu :=
    { b5.nextT t with lockSignal := lock, elapsed := if t = .t3 then 1 else s.biu.elapsed + 1 }
  ({ s2 with biu := b6 },
    { addr := b5.addr
      data := b5.data
      tState := t
      ta := s.biu.ta
      queueOp := e.op
      queueLen := b5.queue.length
      status := b5.status
      signals := busSignals b5.status t
      lock := lock })

/-- A schedule of the EU and the fabric: the records of its ticks and the state after it. -/
def State.busRun (s : State) : List (List EuAction × FabricAnswer) → State × List CycleRecord
  | [] => (s, [])
  | (acts, a) :: rest =>
    let r := s.busTick acts a
    let r' := r.1.busRun rest
    (r'.1, r.2 :: r'.2)

end Sys2Proof.Machine
end

