-- ==== Sys2Proof/Machine/Cycle.lean ====
section
/-! DEFINITION. The execution unit at the bus-cycle level: the EU's actions of every tick come from the instruction it runs
(20_memory.md R220, R231, R245, R249, R251, 30_encoding.md R315, R316, R318). The same meanings as in a step say what an
instruction does; here its transactions run one after another on the BIU, in the order of its *Bus* line. How many ticks the
EU lets pass before each action is not in the spec: it is an input of the tick (R249; log 1, log 20). -/

namespace Sys2Proof.Machine

/-! ### The EU's state -/

/-- What the EU executes between two boundaries (30_encoding.md R315): a decoded instruction, an interrupt entry, with
those that follow it at the same boundary (60_exceptions.md R1051), or the next iteration of a repeated string
instruction. -/
inductive EuWork where
  | instr (i : Instr)
  | entry (e : Entry) (rest : List Entry)
  | iterate (r : RepState)
  deriving DecidableEq, Repr

/-- A work in progress: the state it started from, what devices and ports have answered so far, and how many of its
transactions have been requested. -/
structure Execution where
  start : State
  work : EuWork
  answers : List Byte
  requested : Nat
  deriving DecidableEq, Repr

/-- Where the EU stands: at a boundary; decoding, with the state the prefixes so far have left, the bytes taken after them,
and whether there is such a prefix; executing; or at the end of an instruction, with its `fetch_next()` to come
(30_encoding.md R318). -/
inductive EuPhase where
  | boundary
  | decoding (s : State) (bytes : List Byte) (prefixed : Bool)
  | execute (x : Execution)
  | ending
  deriving DecidableEq, Repr

/-- The core at the bus-cycle level: the architectural state as of the last boundary, its BIU and memory those of the tick;
the EU's phase; and an edge of NMI seen since that boundary (10_state.md R115). -/
structure CycleCore where
  core : State
  phase : EuPhase
  nmiEdge : Bool
  deriving DecidableEq, Repr

/-- The microcode's timing in a tick, which the source does not give (20_memory.md R249): whether the EU goes on, and
whether it calls `fetch_suspend()`, resumes prefetch, or calls `fetch_next()` already in the last transaction of an
instruction (30_encoding.md R318). -/
structure EuTiming where
  go : Bool
  suspend : Bool
  resume : Bool
  fetchNext : Bool
  deriving DecidableEq, Repr

/-! ### What a work does and which transactions it makes -/

/-- Run a work to its end, by the meanings of the architectural level. -/
def EuWork.run (w : EuWork) (s : State) : State :=
  match w with
  | .instr i => match s.runDecoded i with | .next t => t | _ => s
  | .entry e _ => s.take e
  | .iterate r => s.iterate r

/-- The state a work leaves, and in `bus` its transactions in order, given the answers so far. It is run with prefetch
suspended, which only a flush brings back to Normal (20_memory.md R230, R232). -/
def Execution.result (x : Execution) : State :=
  x.work.run
    { x.start with
      biu := { Biu.idle x.start.biu.pc with fetch := .suspended }
      plat := { x.start.plat with answers := x.answers }
      bus := [] }

/-- The work has flushed the queue (20_memory.md R230). -/
def Execution.flushes (x : Execution) : Bool := x.result.biu.fetch == .normal

/-- The transactions still to be requested. -/
def Execution.pending (x : Execution) : List BusOp := x.result.bus.drop x.requested

/-- The kind of transfer of a transaction of a work. -/
def BusOp.euKind (o : BusOp) : EuKind :=
  match o.kind with
  | .memRead => .memRead
  | .memWrite => .memWrite
  | .ioRead => .ioRead
  | .ioWrite => .ioWrite
  | _ => .intAck

/-- The data a request latches: a write's byte, 0 for a read (DESIGN CHOICE, log 31). -/
def BusOp.latched (o : BusOp) : Byte := if o.kind = .memWrite ∨ o.kind = .ioWrite then o.data else 0

/-- The EU's request for the next transfer of a list of transactions, and how many transactions it is: one for a byte and
for the halt pulse, two for a word (20_memory.md R205, R228, R242, R244, R249). -/
def nextRequest : List BusOp → Option (EuAction × Nat)
  | [] => none
  | o :: rest =>
    if o.kind = .halt then some (.halt o.addr o.data, 1)
    else
      match o.final, rest with
      | false, o' :: _ => some (.transfer o.euKind .word o.addr o'.addr (wordOf o.latched o'.latched), 2)
      | _, _ => some (.transfer o.euKind .byte o.addr o.addr (zext16 o.latched), 1)

/-! ### The EU between ticks -/

/-- The inputs of a boundary: an edge of NMI is latched, MC_PC takes an unspecified value, and no transaction has been made
(10_state.md R115, 30_encoding.md R319). TEST is sampled anew where a decoded instruction begins to execute (`inDecode`). -/
def State.sample (s : State) (pins : StepInput) (edge : Bool) : State :=
  { s with
    pins := pins
    bus := []
    eu := { s.eu with nmiLatch := s.eu.nmiLatch || edge, mcPc := Config.freeMcPc s.draws }
    draws := s.draws + 1 }

/-- A byte of the instruction stream after those decoded so far; a completed prefix changes the record, and the next byte
begins anew (30_encoding.md R316). -/
def EuPhase.takeByte (p : EuPhase) (b : Byte) : EuPhase :=
  match p with
  | .decoding s bytes prefixed =>
    match decode (bytes ++ [b]) with
    | .ok (i, _) =>
      if i.isPrefix then
        match exec i { s with ip := s.ip + 1 } with
        | .next t => .decoding t [] true
        | _ => .decoding s (bytes ++ [b]) prefixed
      else .decoding s (bytes ++ [b]) prefixed
    | .error _ => .decoding s (bytes ++ [b]) prefixed
  | p => p

/-- The interrupt entries of one boundary, one after the other, and then a boundary (60_exceptions.md R1051; log 28). -/
def EuPhase.enter (core : State) : List Entry → EuPhase
  | [] => .boundary
  | e :: rest => .execute { start := core, work := .entry e rest, answers := [], requested := 0 }

/-- The work is an interrupt entry. -/
def EuWork.isEntry : EuWork → Bool
  | .entry _ _ => true
  | _ => false

/-- The instruction is at its end in the state `t` that the work has left, and so calls `fetch_next()` (30_encoding.md R318):
not where it was refused, halts or waits the core, or has iterations still to come, nor for an interrupt entry, which is no
instruction; R318 names none of these (DESIGN CHOICE, log 20). -/
def EuWork.endsInstruction (w : EuWork) (t : State) : Bool :=
  !w.isEntry && !t.refused && !t.eu.halted && !t.eu.waiting && t.eu.rep.isNone

/-- What follows a work that has left the state `core`: the entries still due of the same boundary, the end of the
instruction, or a boundary. -/
def EuWork.then (w : EuWork) (core : State) : EuPhase :=
  match w with
  | .entry _ rest => .enter core rest
  | _ => if w.endsInstruction core then .ending else .boundary

/-- The end of a work: the architectural state is what it left, but for the BIU, memory and the platform, which the ticks
have carried on; a refused encoding leaves its mark alone (30_encoding.md R313, R315). -/
def CycleCore.commit (c : CycleCore) (x : Execution) : CycleCore :=
  let t := x.result
  let core : State :=
    if t.refused then { c.core with refused := true }
    else { t with eu := t.eu.ended, biu := c.core.biu, mem := c.core.mem, plat := c.core.plat }
  { c with core := core, phase := x.work.then core }

/-- What the EU does next: actions that spend a tick, or a change of phase that takes no time. -/
inductive EuMove where
  | acts (c : CycleCore) (l : List EuAction)
  | goes (c : CycleCore)
  deriving DecidableEq, Repr

/-- At a boundary: nothing after a refused encoding; else the boundary check, and then an interrupt entry, a halted or a
waiting step, which ends the WAIT when TEST is asserted, the next iteration, or the next instruction (30_encoding.md R315,
45_processor_control.md R907, 60_exceptions.md R1051, R1060). -/
def CycleCore.atBoundary (c : CycleCore) (pins : StepInput) : EuMove :=
  if c.core.refused then .acts c []
  else
    let s := c.core.sample pins c.nmiEdge
    let t := s.clearShadows
    let u : CycleCore := { c with core := t, nmiEdge := false }
    match s.entriesDue with
    | e :: rest => .goes { u with phase := .enter t (e :: rest) }
    | [] =>
      if t.eu.halted then .acts u []
      else if t.eu.waiting then
        let v := t.sampleTest
        .acts { u with core := v, phase := if v.eu.waiting then .boundary else .ending } []
      else
        match t.eu.rep with
        | some p =>
          .goes { u with phase := .execute { start := t, work := .iterate p, answers := [], requested := 0 } }
        | none => .goes { u with phase := .decoding t.beginInstruction [] false }

/-- A read of the queue. The BIU must go on filling an empty queue, or the read would not end (20_memory.md R231, R236;
log 20). -/
def CycleCore.reads (c : CycleCore) (a : EuAction) : List EuAction :=
  if c.core.biu.queue.isEmpty then [.resume, a] else [a]

/-- In decoding: an instruction's first byte in the preload slot is taken at no tick; a complete instruction is executed; else
the next byte is read from the queue (20_memory.md R231). The tick in which the
decoded instruction begins to execute is the one in which a WAIT samples TEST: R907 of 45_processor_control.md names no tick
(DESIGN CHOICE, log 14). -/
def CycleCore.inDecode (c : CycleCore) (pins : StepInput) (s : State) (bytes : List Byte) (prefixed : Bool) : EuMove :=
  match decode bytes with
  | .ok (i, _) =>
    let start : State :=
      { s with ip := s.ip + BitVec.ofNat 16 bytes.length, pins := { s.pins with test := pins.test } }
    .goes { c with phase := .execute { start := start, work := .instr i, answers := [], requested := 0 } }
  | .error _ =>
    match bytes, prefixed, c.core.biu.preload with
    | [], false, some b =>
      .goes { c with
        core := { c.core with biu := { c.core.biu with preload := none } }
        phase := EuPhase.takeByte (.decoding s [] false) b }
    | [], false, none => .acts c (c.reads .popFirst)
    | [], true, _ => .acts c (c.reads .popAfterPrefix)
    | _ :: _, _, _ => .acts c (c.reads .popNext)

/-- In execution: the next request of the *Bus* line, or after the last the end of the work, with its flush: each interrupt
entry of a boundary is a work of its own and flushes (20_memory.md R212, R230, R249). -/
def CycleCore.inExecute (c : CycleCore) (x : Execution) : EuMove :=
  match nextRequest x.pending with
  | some (a, n) => .acts { c with phase := .execute { x with requested := x.requested + n } } [a]
  | none => if x.flushes then .acts (c.commit x) [.flush x.result.ip] else .goes (c.commit x)

/-- At the end of an instruction: `fetch_next()` (30_encoding.md R318), unless its last transaction has overlapped it and the
preload slot is full; then a boundary. -/
def CycleCore.atEnd (c : CycleCore) : EuMove :=
  if c.core.biu.preload.isSome then .goes { c with phase := .boundary }
  else .acts { c with phase := .boundary } (c.reads .fetchNext)

/-- What the EU does next, by its phase. -/
def CycleCore.next (c : CycleCore) (pins : StepInput) : EuMove :=
  match c.phase with
  | .boundary => c.atBoundary pins
  | .decoding s bytes prefixed => c.inDecode pins s bytes prefixed
  | .execute x => c.inExecute x
  | .ending => c.atEnd

/-- The EU goes on until it spends the tick; it lets the rest of the tick pass after `n` changes of phase. -/
def CycleCore.advance (pins : StepInput) : Nat → CycleCore → CycleCore × List EuAction
  | 0, c => (c, [])
  | n + 1, c =>
    match c.next pins with
    | .acts d l => (d, l)
    | .goes d => d.advance pins n

/-! ### The tick -/

/-- Nothing of the work in progress is left to request. -/
def CycleCore.allRequested (c : CycleCore) : Bool :=
  match c.phase with
  | .execute x => x.pending.isEmpty
  | _ => false

/-- The RNI overlap: `fetch_next()` may be called already in the last transaction of an instruction, unless the queue is
still to be flushed, or is empty with fetching stopped (20_memory.md R231, 30_encoding.md R318; log 20). -/
def CycleCore.mayFetchNext (c : CycleCore) : Bool :=
  let b := c.core.biu
  b.queueWait.isNone && b.preload.isNone && (!b.queue.isEmpty || (b.fetch != .halted && b.fetch != .suspended)) &&
    match c.phase with
    | .execute x => b.inLastTransaction && x.pending.isEmpty && !x.flushes && x.work.endsInstruction x.result
    | _ => false

/-- The changes of phase of one tick: the end of a work, the preload slot filled before, a boundary, the byte of that slot,
the end of a one-byte instruction, and its `fetch_next()`. -/
def phasesPerTick : Nat := 8

/-- The EU's actions in a tick, and the core with the changes of phase that go with them. While the EU is blocked it makes no
action but `fetch_next()` (20_memory.md R220, R249). In the first tick after release it may act as in any other: an entry of
an NMI seen there, or a suspension, comes before the first code fetch, where R1101 and R1102 of 70_reset_and_hazards.md and
R233 do not say which is first (DESIGN CHOICE, log 32). -/
def CycleCore.euActions (c : CycleCore) (pins : StepInput) (g : EuTiming) : CycleCore × List EuAction :=
  if g.fetchNext && c.mayFetchNext then (c, [.fetchNext])
  else if c.core.biu.euFree then
    let switch := if g.suspend then [EuAction.suspend] else if g.resume then [EuAction.resume] else []
    if g.go then
      let r := c.advance pins phasesPerTick
      (r.1, switch ++ r.2)
    else (c, switch)
  else (c, [])

/-- The fabric's answer, but the second acknowledge cycle reads the type the interrupt controller answered at the boundary
(20_memory.md R243, 60_exceptions.md R1031). -/
def CycleCore.answer (c : CycleCore) (a : FabricAnswer) : FabricAnswer :=
  match c.phase with
  | .execute x =>
    if c.core.biu.status = .intAck ∧ c.core.biu.transferN = 2 then { a with data := x.start.pins.intr.getD a.data }
    else a
  | _ => a

/-- The byte a tick in T3 has read comes from a device or a port, and so is an answer to the instruction (20_memory.md
R210). -/
def State.deviceRead (s : State) : Bool :=
  s.biu.tState == .t3 &&
    ((s.biu.status == .memRead && s.plat.kindAt s.biu.addr == some .device) ||
      (s.biu.status == .ioRead && s.plat.claims (s.biu.addr.setWidth 16)))

/-- The phase after a tick in which the EU took `taken` and the fabric answered `a`. -/
def EuPhase.after (p : EuPhase) (s : State) (taken : List Byte) (a : FabricAnswer) : EuPhase :=
  match p with
  | .execute x => if s.deviceRead then .execute { x with answers := x.answers ++ [a.data] } else p
  | _ => taken.foldl EuPhase.takeByte p

/-- The EU holds the bus lock (20_memory.md R245, 45_processor_control.md R910): from the LOCK prefix to the end of the
instruction's last data transaction; for HLT to the end of its Halt bus cycle, and for an instruction with no transaction to
the end of its decoding, where these rules name no end (DESIGN CHOICE, log 13); and from iteration to iteration of a locked
repetition. -/
def CycleCore.locks (c : CycleCore) : Bool :=
  match c.phase with
  | .boundary => c.core.eu.lockActive
  | .ending => c.core.eu.lockActive
  | .decoding s _ _ => s.eu.lockActive
  | .execute x =>
    x.start.eu.lockActive && !x.work.isEntry &&
      (!c.allRequested || c.core.biu.euBusy || x.result.eu.rep.isSome)

/-- One tick of the core: RESET abandons everything (70_reset_and_hazards.md R1100); else the EU's actions, the tick of the
BIU, and what that brings the EU. R1100 gives no record for a tick in which RESET is asserted, and R253 of 20_memory.md gives
RESET no place in the tick: the tick does nothing but the reset, and its record shows the idle bus after it, not the T-state
abandoned (DESIGN CHOICE, log 33). -/
def CycleCore.tick (c : CycleCore) (pins : StepInput) (g : EuTiming) (a : FabricAnswer) : CycleCore × CycleRecord :=
  if pins.reset then
    let s := c.core.resetAction
    ({ core := s, phase := .boundary, nmiEdge := false }, (s.busTick [] a).2)
  else
    let e := { c with nmiEdge := c.nmiEdge || pins.nmi }.euActions pins g
    let s := e.1.core
    let answer := e.1.answer a
    let r := s.busTick e.2 answer
    let d : CycleCore :=
      { e.1 with
        core := r.1
        phase := e.1.phase.after s (s.biu.euStep s.biu.tState e.2).taken answer }
    ({ d with core := { r.1 with biu := { r.1.biu with lockHeld := d.locks } } }, r.2)

/-- A run of ticks: the core after them and their records. -/
def CycleCore.run (c : CycleCore) : List (StepInput × EuTiming × FabricAnswer) → CycleCore × List CycleRecord
  | [] => (c, [])
  | (pins, g, a) :: rest =>
    let r := c.tick pins g a
    let r' := r.1.run rest
    (r'.1, r.2 :: r'.2)

end Sys2Proof.Machine
end

