-- ==== Sys2Proof/Safety.lean ====
section
/-! DEFINITION. What holds at every boundary of a run and in every tick of the bus, and what an instruction writes and
leaves alone, in the terms the claims use. -/

namespace Sys2Proof.Machine

/-! ### At a boundary -/

/-- Memory is in its canonical form (log 3). -/
def State.MemOk (s : State) : Prop := s.mem.wf = true

/-- The queue holds at most QUEUE_SIZE bytes, the one in flight counted (10_state.md R117, 20_memory.md R229). -/
def State.QueueOk (s : State) : Prop :=
  s.biu.queue.length + (if s.biu.codeExpected then 1 else 0) ≤ Config.queueSize

/-- PC minus the bytes held is the architectural IP (20_memory.md R247). -/
def State.IpOk (s : State) : Prop := s.biu.derivedIp = s.ip

/-- A repeated string instruction in progress has iterations left (43_string.md R701). -/
def State.RepOk (s : State) : Prop := s.eu.rep.isSome = true → s.regs.cx ≠ 0

/-- No instruction record outlives its step, but for one whose prefixes go on in the next, and then no repetition is in
progress (10_state.md R116, 70_reset_and_hazards.md R1115; log 11). -/
def State.RecordOk (s : State) : Prop :=
  (s.eu.decoding = false → s.eu.segOverride = none ∧ s.eu.repPrefix = none) ∧
    (s.eu.decoding = true → s.eu.rep = none)

/-- The invariant of the architectural level. -/
def State.Inv (s : State) : Prop := s.MemOk ∧ s.QueueOk ∧ s.IpOk ∧ s.RepOk ∧ s.RecordOk

/-! ### In a tick -/

/-- 1 for a code fetch that will enter the queue, else 0. -/
def countIf (b : Bool) : Nat := if b then 1 else 0

/-- How many code bytes are on their way to the queue: in flight, committed, or with their address cycle under way. -/
def Biu.coming (b : Biu) : Nat :=
  countIf b.codeExpected + countIf (Request.isCode b.committed && !b.discarded) + countIf (Request.isCode b.owner)

/-- The queue has room for every code byte on its way (20_memory.md R229, R233). -/
def Biu.RoomOk (b : Biu) : Prop := b.queue.length + b.coming ≤ Config.queueSize

/-- A committed transaction has its T1 in the next tick (20_memory.md R223, R241). -/
def Biu.CommitOk (b : Biu) : Prop := b.committed.isSome = true ↔ b.tState = .t1

/-- The address pipeline has an owner in Tr, Ts and T0, none in Td and Ta, and a penalty is counted only in Ta
(20_memory.md R237, R240). -/
def Biu.PipelineOk (b : Biu) : Prop :=
  (b.owner.isSome = true ↔ b.ta = .tr ∨ b.ta = .ts ∨ b.ta = .t0) ∧ (b.abortLeft ≠ 0 → b.ta = .ta) ∧
    (b.ta = .ta → b.euWaiting.isSome = true)

/-- A code fetch is marked as discarded only while it is on the bus or about to start (20_memory.md R230). -/
def Biu.DiscardOk (b : Biu) : Prop :=
  b.discarded = true → b.codeInFlight = true ∨ Request.isCode b.committed = true

/-- The bus is passive in Ti and busy in T2 to T4; before T1 latches its transaction the status is still that of the tick
before (20_memory.md R222, R223, R241). -/
def Biu.StatusOk (b : Biu) : Prop :=
  match b.tState with
  | .ti => b.status = .passive
  | .t1 => True
  | .tinit => False
  | _ => b.status ≠ .passive ∧ b.status ≠ .halt

/-- A transaction the EU can request: no code fetch (20_memory.md R222). -/
def BusStatus.isEu : BusStatus → Bool
  | .memRead => true
  | .memWrite => true
  | .ioRead => true
  | .ioWrite => true
  | .intAck => true
  | _ => false

/-- No EU request is of kind CodeFetch; what owns the address cycle is an EU request or a code fetch; only the halt pulse is
a Halt (20_memory.md R222, R244). -/
def Biu.RequestsOk (b : Biu) : Prop :=
  (∀ r, b.euWaiting = some r → r.kind.isEu = true) ∧ (∀ r, b.nextHalf = some r → r.kind.isEu = true) ∧
    (∀ r, b.owner = some r → r.kind.isEu = true ∨ r.kind = .codeFetch) ∧
      (∀ r, b.committed = some r → r.kind ≠ .passive) ∧ ∀ r, b.haltPending = some r → r.kind = .halt

/-- The EU waits for the queue with the first byte of an instruction, or `fetch_next()`, only while the preload slot is
empty (20_memory.md R231). -/
def Biu.WaitOk (b : Biu) : Prop :=
  b.queueWait = some .first ∨ b.queueWait = some .fetchNext → b.preload = none

/-- The invariant of the bus-cycle level. -/
def Biu.Inv (b : Biu) : Prop :=
  b.RoomOk ∧ b.CommitOk ∧ b.PipelineOk ∧ b.DiscardOk ∧ b.StatusOk ∧ b.RequestsOk ∧ b.WaitOk

/-! ### What an instruction does and leaves alone -/

/-- The instruction answers a next state, of which `P` holds. -/
def Completes (i : Instr) (s : State) (P : State → Prop) : Prop := ∃ t, exec i s = .next t ∧ P t

/-- What no instruction writes: the parameters, the inputs, the memory map, the mark; and the transactions made so far
stand. -/
def SameFixed (s t : State) : Prop :=
  t.cfg = s.cfg ∧ t.inputs = s.inputs ∧ t.pins = s.pins ∧ t.refused = s.refused ∧ t.plat.regions = s.plat.regions ∧
    t.plat.ports = s.plat.ports ∧ s.bus <+: t.bus

/-- No segment register, IP, latch of the EU, or part of the BIU is written. -/
def SameCore (s t : State) : Prop :=
  SameFixed s t ∧ t.sregs = s.sregs ∧ t.ip = s.ip ∧ t.eu = s.eu ∧ t.biu = s.biu

/-- Every general register is as before. -/
def RegsSame (s t : State) : Prop := ∀ q, t.reg16 q = s.reg16 q

/-- One word register is written. -/
def OnlyReg16 (s t : State) (r : Reg16) (v : Word) : Prop := t.reg16 r = v ∧ ∀ q, q ≠ r → t.reg16 q = s.reg16 q

/-- One byte register is written: the other byte registers and the registers without halves are as before (10_state.md
R100). -/
def OnlyReg8 (s t : State) (r : Reg8) (v : Byte) : Prop :=
  t.reg8 r = v ∧ (∀ q, q ≠ r → t.reg8 q = s.reg8 q) ∧ t.regs.sp = s.regs.sp ∧ t.regs.bp = s.regs.bp ∧
    t.regs.si = s.regs.si ∧ t.regs.di = s.regs.di

/-- SP is written, and no other general register. -/
def OnlySp (s t : State) (v : Word) : Prop := OnlyReg16 s t .sp v

/-- Every byte of memory reads as before. -/
def MemSame (s t : State) : Prop := ∀ a, t.mem.read a = s.mem.read a

/-- The address is plain RAM. -/
def State.IsRam (s : State) (a : LinAddr) : Prop := s.plat.kindAt a = none

/-- What a byte reads as after stores in this order: a store counts where the address is plain RAM (20_memory.md
R210). -/
def State.byteAfter (s : State) (stores : List (LinAddr × Byte)) (a : LinAddr) : Byte :=
  stores.foldl (fun old x => if x.1 = a ∧ s.plat.kindAt a = none then x.2 else old) (s.mem.read a)

/-- Memory is what these stores leave of it, and nothing else of it has changed. -/
def MemAfter (s t : State) (stores : List (LinAddr × Byte)) : Prop := ∀ a, t.mem.read a = s.byteAfter stores a

/-- The store of a byte. -/
def byteStore (seg off : Word) (v : Byte) : List (LinAddr × Byte) := [(lin seg off, v)]

/-- The stores of a word: its low byte at the offset, then its high byte at the offset plus 1 (20_memory.md R203 to
R205). -/
def wordStores (seg off v : Word) : List (LinAddr × Byte) :=
  [(lin seg off, loByte v), (lin seg (off + 1), hiByte v)]

/-- An r/m byte operand is written, and nothing else of the registers and of memory. -/
def Wrote8 (s t : State) (m : RM Reg8) (v : Byte) : Prop :=
  match m with
  | .reg r => OnlyReg8 s t r v ∧ MemSame s t
  | .mem a => RegsSame s t ∧ MemAfter s t (byteStore (s.eaSeg a) (s.ea a) v)

/-- An r/m word operand is written, and nothing else of the registers and of memory. -/
def Wrote16 (s t : State) (m : RM Reg16) (v : Word) : Prop :=
  match m with
  | .reg r => OnlyReg16 s t r v ∧ MemSame s t
  | .mem a => RegsSame s t ∧ MemAfter s t (wordStores (s.eaSeg a) (s.ea a) v)

/-- Nothing of the registers and of memory is written. -/
def WroteNothing (s t : State) : Prop := RegsSame s t ∧ MemSame s t

/-- The instruction stream was redirected: the BIU holds nothing and fetches next from IP (44_control_transfer.md
R800). -/
def State.Flushed (t : State) : Prop :=
  t.biu.queue = [] ∧ t.biu.preload = none ∧ t.biu.pc = t.ip ∧ t.biu.fetch = .normal

/-! ### Instructions of one shape, by what tells them apart -/

def instrEbGb : AluOp → RM Reg8 → Reg8 → Instr
  | .add => .addEbGb
  | .or => .orEbGb
  | .adc => .adcEbGb
  | .sbb => .sbbEbGb
  | .and => .andEbGb
  | .sub => .subEbGb
  | .xor => .xorEbGb
  | .cmp => .cmpEbGb
  | .test => .testEbGb

def instrEwGw : AluOp → RM Reg16 → Reg16 → Instr
  | .add => .addEwGw
  | .or => .orEwGw
  | .adc => .adcEwGw
  | .sbb => .sbbEwGw
  | .and => .andEwGw
  | .sub => .subEwGw
  | .xor => .xorEwGw
  | .cmp => .cmpEwGw
  | .test => .testEwGw

/-- TEST has no such form. -/
def instrGbEb : AluOp → Option (Reg8 → RM Reg8 → Instr)
  | .add => some .addGbEb
  | .or => some .orGbEb
  | .adc => some .adcGbEb
  | .sbb => some .sbbGbEb
  | .and => some .andGbEb
  | .sub => some .subGbEb
  | .xor => some .xorGbEb
  | .cmp => some .cmpGbEb
  | .test => none

/-- TEST has no such form. -/
def instrGwEw : AluOp → Option (Reg16 → RM Reg16 → Instr)
  | .add => some .addGwEw
  | .or => some .orGwEw
  | .adc => some .adcGwEw
  | .sbb => some .sbbGwEw
  | .and => some .andGwEw
  | .sub => some .subGwEw
  | .xor => some .xorGwEw
  | .cmp => some .cmpGwEw
  | .test => none

def instrALIb : AluOp → Byte → Instr
  | .add => .addALIb
  | .or => .orALIb
  | .adc => .adcALIb
  | .sbb => .sbbALIb
  | .and => .andALIb
  | .sub => .subALIb
  | .xor => .xorALIb
  | .cmp => .cmpALIb
  | .test => .testALIb

def instrAXIw : AluOp → Word → Instr
  | .add => .addAXIw
  | .or => .orAXIw
  | .adc => .adcAXIw
  | .sbb => .sbbAXIw
  | .and => .andAXIw
  | .sub => .subAXIw
  | .xor => .xorAXIw
  | .cmp => .cmpAXIw
  | .test => .testAXIw

def instrEbIb : AluOp → RM Reg8 → Byte → Instr
  | .add => .addEbIb
  | .or => .orEbIb
  | .adc => .adcEbIb
  | .sbb => .sbbEbIb
  | .and => .andEbIb
  | .sub => .subEbIb
  | .xor => .xorEbIb
  | .cmp => .cmpEbIb
  | .test => .testEbIb

def instrEwIw : AluOp → RM Reg16 → Word → Instr
  | .add => .addEwIw
  | .or => .orEwIw
  | .adc => .adcEwIw
  | .sbb => .sbbEwIw
  | .and => .andEwIw
  | .sub => .subEwIw
  | .xor => .xorEwIw
  | .cmp => .cmpEwIw
  | .test => .testEwIw

/-- TEST has no such form. -/
def instrEwIbs : AluOp → Option (RM Reg16 → Byte → Instr)
  | .add => some .addEwIbs
  | .or => some .orEwIbs
  | .adc => some .adcEwIbs
  | .sbb => some .sbbEwIbs
  | .and => some .andEwIbs
  | .sub => some .subEwIbs
  | .xor => some .xorEwIbs
  | .cmp => some .cmpEwIbs
  | .test => none

/-- INC reg16. -/
def instrInc : Reg16 → Instr
  | .ax => .incAX
  | .cx => .incCX
  | .dx => .incDX
  | .bx => .incBX
  | .sp => .incSP
  | .bp => .incBP
  | .si => .incSI
  | .di => .incDI

/-- DEC reg16. -/
def instrDec : Reg16 → Instr
  | .ax => .decAX
  | .cx => .decCX
  | .dx => .decDX
  | .bx => .decBX
  | .sp => .decSP
  | .bp => .decBP
  | .si => .decSI
  | .di => .decDI

/-- PUSH reg16. -/
def instrPush : Reg16 → Instr
  | .ax => .pushAX
  | .cx => .pushCX
  | .dx => .pushDX
  | .bx => .pushBX
  | .sp => .pushSP
  | .bp => .pushBP
  | .si => .pushSI
  | .di => .pushDI

/-- POP reg16. -/
def instrPop : Reg16 → Instr
  | .ax => .popAX
  | .cx => .popCX
  | .dx => .popDX
  | .bx => .popBX
  | .sp => .popSP
  | .bp => .popBP
  | .si => .popSI
  | .di => .popDI

/-- PUSH of a segment register. -/
def instrPushSeg : SReg → Instr
  | .es => .pushES
  | .cs => .pushCS
  | .ss => .pushSS
  | .ds => .pushDS

/-- POP of a segment register; POP CS is refused (30_encoding.md R313). -/
def instrPopSeg : SReg → Option Instr
  | .es => some .popES
  | .cs => none
  | .ss => some .popSS
  | .ds => some .popDS

/-- MOV Ew,Sw. -/
def instrMovFromSeg : SReg → RM Reg16 → Instr
  | .es => .movEwES
  | .cs => .movEwCS
  | .ss => .movEwSS
  | .ds => .movEwDS

/-- MOV Sw,Ew; MOV CS,Ew is refused (30_encoding.md R313). -/
def instrMovToSeg : SReg → Option (RM Reg16 → Instr)
  | .es => some .movESEw
  | .cs => none
  | .ss => some .movSSEw
  | .ds => some .movDSEw

/-- MOV reg8,Ib. -/
def instrMovIb : Reg8 → Byte → Instr
  | .al => .movALIb
  | .cl => .movCLIb
  | .dl => .movDLIb
  | .bl => .movBLIb
  | .ah => .movAHIb
  | .ch => .movCHIb
  | .dh => .movDHIb
  | .bh => .movBHIb

/-- MOV reg16,Iw. -/
def instrMovIw : Reg16 → Word → Instr
  | .ax => .movAXIw
  | .cx => .movCXIw
  | .dx => .movDXIw
  | .bx => .movBXIw
  | .sp => .movSPIw
  | .bp => .movBPIw
  | .si => .movSIIw
  | .di => .movDIIw

/-- XCHG AX,reg16; XCHG AX,AX is NOP (40_data_transfer.md R420). -/
def instrXchgAX : Reg16 → Instr
  | .ax => .nop
  | .cx => .xchgAXCX
  | .dx => .xchgAXDX
  | .bx => .xchgAXBX
  | .sp => .xchgAXSP
  | .bp => .xchgAXBP
  | .si => .xchgAXSI
  | .di => .xchgAXDI

/-- op Eb,1. -/
def instrShiftEb1 : ShiftOp → RM Reg8 → Instr
  | .rol => .rolEb1
  | .ror => .rorEb1
  | .rcl => .rclEb1
  | .rcr => .rcrEb1
  | .shl => .shlEb1
  | .shr => .shrEb1
  | .sar => .sarEb1

/-- op Eb,CL. -/
def instrShiftEbCL : ShiftOp → RM Reg8 → Instr
  | .rol => .rolEbCL
  | .ror => .rorEbCL
  | .rcl => .rclEbCL
  | .rcr => .rcrEbCL
  | .shl => .shlEbCL
  | .shr => .shrEbCL
  | .sar => .sarEbCL

/-- op Ew,1. -/
def instrShiftEw1 : ShiftOp → RM Reg16 → Instr
  | .rol => .rolEw1
  | .ror => .rorEw1
  | .rcl => .rclEw1
  | .rcr => .rcrEw1
  | .shl => .shlEw1
  | .shr => .shrEw1
  | .sar => .sarEw1

/-- op Ew,CL. -/
def instrShiftEwCL : ShiftOp → RM Reg16 → Instr
  | .rol => .rolEwCL
  | .ror => .rorEwCL
  | .rcl => .rclEwCL
  | .rcr => .rcrEwCL
  | .shl => .shlEwCL
  | .shr => .shrEwCL
  | .sar => .sarEwCL

/-- Jcc Jb. -/
def instrJcc : Cond → Byte → Instr
  | .o => .joJb
  | .no => .jnoJb
  | .b => .jbJb
  | .ae => .jaeJb
  | .e => .jeJb
  | .ne => .jneJb
  | .be => .jbeJb
  | .a => .jaJb
  | .s => .jsJb
  | .ns => .jnsJb
  | .p => .jpJb
  | .np => .jnpJb
  | .l => .jlJb
  | .ge => .jgeJb
  | .le => .jleJb
  | .g => .jgJb

/-- A string instruction. -/
def instrString : StringPrim → Width → Instr
  | .movs, .byte => .movsb
  | .movs, .word => .movsw
  | .cmps, .byte => .cmpsb
  | .cmps, .word => .cmpsw
  | .scas, .byte => .scasb
  | .scas, .word => .scasw
  | .lods, .byte => .lodsb
  | .lods, .word => .lodsw
  | .stos, .byte => .stosb
  | .stos, .word => .stosw

/-- ESC, by the low three bits of the opcode. -/
def instrEsc : List (BitVec 3 → RM Reg16 → Instr) :=
  [.esc0E, .esc1E, .esc2E, .esc3E, .esc4E, .esc5E, .esc6E, .esc7E]

/-! ### What the instructions of a shape do -/

/-- A binary operation on bytes, its result written to `m` if the operation writes: AF is free after a logic operation
(41_arithmetic.md R500, 42_logic_shift.md R600). -/
def AluDone8 (s t : State) (op : AluOp) (m : RM Reg8) (a b : Byte) : Prop :=
  SameCore s t ∧
    (∃ x, t.flags = if op.drawsAf then { op.flags s.flags a b with af := x } else op.flags s.flags a b) ∧
      if op.writes then Wrote8 s t m (op.result a b s.flags.cf) else WroteNothing s t

/-- A binary operation on words. -/
def AluDone16 (s t : State) (op : AluOp) (m : RM Reg16) (a b : Word) : Prop :=
  SameCore s t ∧
    (∃ x, t.flags = if op.drawsAf then { op.flags s.flags a b with af := x } else op.flags s.flags a b) ∧
      if op.writes then Wrote16 s t m (op.result a b s.flags.cf) else WroteNothing s t

/-- The flags after a shift or rotate of `v` by `n`: OF is free unless n = 1, AF is free after a shift (42_logic_shift.md
R607). -/
def ShiftFlags {w : Nat} (s t : State) (op : ShiftOp) (n : Nat) (v : BitVec w) : Prop :=
  ∃ x y : Bool,
    let r := op.steps n v s.flags.cf
    let f := { s.flags with cf := r.2, ofl := if n = 1 then op.overflow v r.1 r.2 else x }
    t.flags = if op.isShift then { szp f r.1 with af := y } else f

/-- A shift or rotate of a byte operand by `n`; a count of 0 changes nothing (42_logic_shift.md R607). -/
def ShiftDone8 (s t : State) (op : ShiftOp) (n : Nat) (m : RM Reg8) : Prop :=
  SameCore s t ∧
    if n = 0 then WroteNothing s t ∧ t.flags = s.flags
    else Wrote8 s t m (op.steps n (s.readRM8 m).1 s.flags.cf).1 ∧ ShiftFlags s t op n (s.readRM8 m).1

/-- A shift or rotate of a word operand by `n`. -/
def ShiftDone16 (s t : State) (op : ShiftOp) (n : Nat) (m : RM Reg16) : Prop :=
  SameCore s t ∧
    if n = 0 then WroteNothing s t ∧ t.flags = s.flags
    else Wrote16 s t m (op.steps n (s.readRM16 m).1 s.flags.cf).1 ∧ ShiftFlags s t op n (s.readRM16 m).1

/-- A value is moved to a byte operand and nothing else changes. -/
def Moved8 (s t : State) (m : RM Reg8) (v : Byte) : Prop := SameCore s t ∧ t.flags = s.flags ∧ Wrote8 s t m v

/-- A value is moved to a word operand and nothing else changes. -/
def Moved16 (s t : State) (m : RM Reg16) (v : Word) : Prop := SameCore s t ∧ t.flags = s.flags ∧ Wrote16 s t m v

/-- A word is pushed and nothing else changes (40_data_transfer.md R410). -/
def Pushed (s t : State) (v : Word) : Prop :=
  SameCore s t ∧ t.flags = s.flags ∧ OnlySp s t (s.regs.sp - 2) ∧
    MemAfter s t (wordStores s.sregs.ss (s.regs.sp - 2) v)

/-- The word on top of the stack (40_data_transfer.md R415). -/
def State.top (s : State) : Word := (s.readW s.sregs.ss s.regs.sp).1

/-- Only FLAGS is written. -/
def OnlyFlags (s t : State) (f : Flags) : Prop := SameCore s t ∧ WroteNothing s t ∧ t.flags = f

/-- Control goes to `ip` in the segment `cs`: the queue is flushed; no other segment register, latch or flag changes
(44_control_transfer.md R800). -/
def Jumped (s t : State) (cs ip : Word) : Prop :=
  SameFixed s t ∧ t.ip = ip ∧ t.sregs = { s.sregs with cs := cs } ∧ t.Flushed ∧ t.eu = s.eu ∧ t.flags = s.flags

/-- Two FLAGS values differ at most in the listed arithmetic flags. -/
def FlagsButFor (f g : Flags) (l : List Flag) : Prop :=
  (.cf ∉ l → f.cf = g.cf) ∧ (.pf ∉ l → f.pf = g.pf) ∧ (.af ∉ l → f.af = g.af) ∧ (.zf ∉ l → f.zf = g.zf) ∧
    (.sf ∉ l → f.sf = g.sf) ∧ (.ofl ∉ l → f.ofl = g.ofl) ∧ f.tf = g.tf ∧ f.ifl = g.ifl ∧ f.df = g.df

/-- Only general registers, and the listed flags, are written; the other flags are those of `f`. -/
def OnlyRegsAndFlags (s t : State) (f : Flags) (drawn : List Flag) : Prop :=
  SameCore s t ∧ MemSame s t ∧ FlagsButFor t.flags f drawn

/-- The memory stores of an interrupt entry: FLAGS, CS and the return offset (60_exceptions.md R1010). -/
def frameStores (s : State) (ret : Word) : List (LinAddr × Byte) :=
  wordStores s.sregs.ss (s.regs.sp - 2) s.flags.toWord ++ wordStores s.sregs.ss (s.regs.sp - 4) s.sregs.cs ++
    wordStores s.sregs.ss (s.regs.sp - 6) ret

/-- The vector an interrupt entry reads: after its pushes or before them, as INT_VECTOR_ORDER says (60_exceptions.md
R1001, R1010); the segment, then the offset. -/
def vectorRead (s : State) (n : Byte) (ret : Word) : Word × Word :=
  match s.cfg.intVectorOrder with
  | .afterPushes => ((s.pushFrame ret).readVector n).1
  | .beforePushes => (s.readVector n).1

/-- What an interrupt entry of type n with return offset `ret` does (60_exceptions.md R1010), but for the latches named
in `EntryLatches`. -/
def Entered (s t : State) (n : Byte) (ret : Word) : Prop :=
  SameFixed s t ∧ OnlySp s t (s.regs.sp - 6) ∧ MemAfter s t (frameStores s ret) ∧
    t.flags = { s.flags with ifl := false, tf := false } ∧
      t.sregs = { s.sregs with cs := (vectorRead s n ret).1 } ∧ t.ip = (vectorRead s n ret).2 ∧ t.Flushed

/-- The latches after an interrupt entry that leaves `trap` and `lock` (60_exceptions.md R1010). -/
def EntryLatches (s t : State) (trap lock : Bool) : Prop :=
  t.eu = { s.eu with rep := none, waiting := false, halted := false, trapArmed := trap, lockActive := lock }

/-- No byte that an interrupt entry of type n pushes is a byte of its vector. -/
def StackMissesVector (s : State) (n : Byte) : Prop :=
  ∀ i < 6, ∀ j < 4, lin s.sregs.ss (s.regs.sp - 6 + BitVec.ofNat 16 i) ≠ lin 0 ((zext16 n <<< 2) + BitVec.ofNat 16 j)

end Sys2Proof.Machine
end

