-- ==== Sys2Proof/WellFormed.lean ====
section
/-! DEFINITION. Which instructions as syntax have an encoding: the addressing mode [BP] without a displacement has none
(30_encoding.md R306: mod 00 with rm 110 is the direct address), and `refused` stands for the encodings of R313 only,
with all their bytes. -/

namespace Sys2Proof

/-- BP alone needs a displacement byte (30_encoding.md R306). -/
def EA.wf : EA → Bool
  | .direct _ => true
  | .based .bp .none => false
  | .based _ _ => true

/-- An r/m operand that can be encoded. -/
def RM.wf {R : Type} : RM R → Bool
  | .reg _ => true
  | .mem a => a.wf

/-- An instruction that can be encoded. -/
def Instr.wf : Instr → Bool
  | .addEbGb m _ => m.wf
  | .addEwGw m _ => m.wf
  | .addGbEb _ m => m.wf
  | .addGwEw _ m => m.wf
  | .addALIb _ => true
  | .addAXIw _ => true
  | .orEbGb m _ => m.wf
  | .orEwGw m _ => m.wf
  | .orGbEb _ m => m.wf
  | .orGwEw _ m => m.wf
  | .orALIb _ => true
  | .orAXIw _ => true
  | .adcEbGb m _ => m.wf
  | .adcEwGw m _ => m.wf
  | .adcGbEb _ m => m.wf
  | .adcGwEw _ m => m.wf
  | .adcALIb _ => true
  | .adcAXIw _ => true
  | .sbbEbGb m _ => m.wf
  | .sbbEwGw m _ => m.wf
  | .sbbGbEb _ m => m.wf
  | .sbbGwEw _ m => m.wf
  | .sbbALIb _ => true
  | .sbbAXIw _ => true
  | .andEbGb m _ => m.wf
  | .andEwGw m _ => m.wf
  | .andGbEb _ m => m.wf
  | .andGwEw _ m => m.wf
  | .andALIb _ => true
  | .andAXIw _ => true
  | .subEbGb m _ => m.wf
  | .subEwGw m _ => m.wf
  | .subGbEb _ m => m.wf
  | .subGwEw _ m => m.wf
  | .subALIb _ => true
  | .subAXIw _ => true
  | .xorEbGb m _ => m.wf
  | .xorEwGw m _ => m.wf
  | .xorGbEb _ m => m.wf
  | .xorGwEw _ m => m.wf
  | .xorALIb _ => true
  | .xorAXIw _ => true
  | .cmpEbGb m _ => m.wf
  | .cmpEwGw m _ => m.wf
  | .cmpGbEb _ m => m.wf
  | .cmpGwEw _ m => m.wf
  | .cmpALIb _ => true
  | .cmpAXIw _ => true
  | .pushES => true
  | .popES => true
  | .pushCS => true
  | .pushSS => true
  | .popSS => true
  | .pushDS => true
  | .popDS => true
  | .refused op bytes => refusedEncoding op bytes.head? && bytes.length == refusedLength op bytes.head?
  | .prefixES => true
  | .prefixCS => true
  | .prefixSS => true
  | .prefixDS => true
  | .daa => true
  | .das => true
  | .aaa => true
  | .aas => true
  | .incAX => true
  | .incCX => true
  | .incDX => true
  | .incBX => true
  | .incSP => true
  | .incBP => true
  | .incSI => true
  | .incDI => true
  | .decAX => true
  | .decCX => true
  | .decDX => true
  | .decBX => true
  | .decSP => true
  | .decBP => true
  | .decSI => true
  | .decDI => true
  | .pushAX => true
  | .pushCX => true
  | .pushDX => true
  | .pushBX => true
  | .pushSP => true
  | .pushBP => true
  | .pushSI => true
  | .pushDI => true
  | .popAX => true
  | .popCX => true
  | .popDX => true
  | .popBX => true
  | .popSP => true
  | .popBP => true
  | .popSI => true
  | .popDI => true
  | .joJb _ => true
  | .jnoJb _ => true
  | .jbJb _ => true
  | .jaeJb _ => true
  | .jeJb _ => true
  | .jneJb _ => true
  | .jbeJb _ => true
  | .jaJb _ => true
  | .jsJb _ => true
  | .jnsJb _ => true
  | .jpJb _ => true
  | .jnpJb _ => true
  | .jlJb _ => true
  | .jgeJb _ => true
  | .jleJb _ => true
  | .jgJb _ => true
  | .addEbIb m _ => m.wf
  | .orEbIb m _ => m.wf
  | .adcEbIb m _ => m.wf
  | .sbbEbIb m _ => m.wf
  | .andEbIb m _ => m.wf
  | .subEbIb m _ => m.wf
  | .xorEbIb m _ => m.wf
  | .cmpEbIb m _ => m.wf
  | .addEwIw m _ => m.wf
  | .orEwIw m _ => m.wf
  | .adcEwIw m _ => m.wf
  | .sbbEwIw m _ => m.wf
  | .andEwIw m _ => m.wf
  | .subEwIw m _ => m.wf
  | .xorEwIw m _ => m.wf
  | .cmpEwIw m _ => m.wf
  | .addEwIbs m _ => m.wf
  | .orEwIbs m _ => m.wf
  | .adcEwIbs m _ => m.wf
  | .sbbEwIbs m _ => m.wf
  | .andEwIbs m _ => m.wf
  | .subEwIbs m _ => m.wf
  | .xorEwIbs m _ => m.wf
  | .cmpEwIbs m _ => m.wf
  | .testEbGb m _ => m.wf
  | .testEwGw m _ => m.wf
  | .xchgEbGb m _ => m.wf
  | .xchgEwGw m _ => m.wf
  | .movEbGb m _ => m.wf
  | .movEwGw m _ => m.wf
  | .movGbEb _ m => m.wf
  | .movGwEw _ m => m.wf
  | .movEwES m => m.wf
  | .movEwCS m => m.wf
  | .movEwSS m => m.wf
  | .movEwDS m => m.wf
  | .leaGwM _ m => m.wf
  | .movESEw m => m.wf
  | .movSSEw m => m.wf
  | .movDSEw m => m.wf
  | .popEw m => m.wf
  | .nop => true
  | .xchgAXCX => true
  | .xchgAXDX => true
  | .xchgAXBX => true
  | .xchgAXSP => true
  | .xchgAXBP => true
  | .xchgAXSI => true
  | .xchgAXDI => true
  | .cbw => true
  | .cwd => true
  | .callAp _ _ => true
  | .wait => true
  | .pushf => true
  | .popf => true
  | .sahf => true
  | .lahf => true
  | .movALOb _ => true
  | .movAXOw _ => true
  | .movObAL _ => true
  | .movOwAX _ => true
  | .movsb => true
  | .movsw => true
  | .cmpsb => true
  | .cmpsw => true
  | .testALIb _ => true
  | .testAXIw _ => true
  | .stosb => true
  | .stosw => true
  | .lodsb => true
  | .lodsw => true
  | .scasb => true
  | .scasw => true
  | .movALIb _ => true
  | .movCLIb _ => true
  | .movDLIb _ => true
  | .movBLIb _ => true
  | .movAHIb _ => true
  | .movCHIb _ => true
  | .movDHIb _ => true
  | .movBHIb _ => true
  | .movAXIw _ => true
  | .movCXIw _ => true
  | .movDXIw _ => true
  | .movBXIw _ => true
  | .movSPIw _ => true
  | .movBPIw _ => true
  | .movSIIw _ => true
  | .movDIIw _ => true
  | .retIw _ => true
  | .ret => true
  | .lesGwMp _ a => a.wf
  | .ldsGwMp _ a => a.wf
  | .movEbIb m _ => m.wf
  | .movEwIw m _ => m.wf
  | .retfIw _ => true
  | .retf => true
  | .int3 => true
  | .intIb _ => true
  | .into => true
  | .iret => true
  | .rolEb1 m => m.wf
  | .rorEb1 m => m.wf
  | .rclEb1 m => m.wf
  | .rcrEb1 m => m.wf
  | .shlEb1 m => m.wf
  | .shrEb1 m => m.wf
  | .sarEb1 m => m.wf
  | .rolEw1 m => m.wf
  | .rorEw1 m => m.wf
  | .rclEw1 m => m.wf
  | .rcrEw1 m => m.wf
  | .shlEw1 m => m.wf
  | .shrEw1 m => m.wf
  | .sarEw1 m => m.wf
  | .rolEbCL m => m.wf
  | .rorEbCL m => m.wf
  | .rclEbCL m => m.wf
  | .rcrEbCL m => m.wf
  | .shlEbCL m => m.wf
  | .shrEbCL m => m.wf
  | .sarEbCL m => m.wf
  | .rolEwCL m => m.wf
  | .rorEwCL m => m.wf
  | .rclEwCL m => m.wf
  | .rcrEwCL m => m.wf
  | .shlEwCL m => m.wf
  | .shrEwCL m => m.wf
  | .sarEwCL m => m.wf
  | .aamIb _ => true
  | .aadIb _ => true
  | .salc => true
  | .xlat => true
  | .esc0E _ m => m.wf
  | .esc1E _ m => m.wf
  | .esc2E _ m => m.wf
  | .esc3E _ m => m.wf
  | .esc4E _ m => m.wf
  | .esc5E _ m => m.wf
  | .esc6E _ m => m.wf
  | .esc7E _ m => m.wf
  | .loopneJb _ => true
  | .loopeJb _ => true
  | .loopJb _ => true
  | .jcxzJb _ => true
  | .inALIb _ => true
  | .inAXIb _ => true
  | .outIbAL _ => true
  | .outIbAX _ => true
  | .callJw _ => true
  | .jmpJw _ => true
  | .jmpAp _ _ => true
  | .jmpJb _ => true
  | .inALDX => true
  | .inAXDX => true
  | .outDXAL => true
  | .outDXAX => true
  | .lock => true
  | .repne => true
  | .rep => true
  | .hlt => true
  | .cmc => true
  | .testEbIb m _ => m.wf
  | .notEb m => m.wf
  | .negEb m => m.wf
  | .mulEb m => m.wf
  | .imulEb m => m.wf
  | .divEb m => m.wf
  | .idivEb m => m.wf
  | .testEwIw m _ => m.wf
  | .notEw m => m.wf
  | .negEw m => m.wf
  | .mulEw m => m.wf
  | .imulEw m => m.wf
  | .divEw m => m.wf
  | .idivEw m => m.wf
  | .clc => true
  | .stc => true
  | .cli => true
  | .sti => true
  | .cld => true
  | .std => true
  | .incEb m => m.wf
  | .decEb m => m.wf
  | .incEw m => m.wf
  | .decEw m => m.wf
  | .callEw m => m.wf
  | .callMp a => a.wf
  | .jmpEw m => m.wf
  | .jmpMp a => a.wf
  | .pushEw m => m.wf

end Sys2Proof
end

