-- ==== Sys2Proof/Certificates/Slice0/Obligations.lean ====
section
/-! DEFINITION. The statements about the model, each after the rules of spec/ that its docstring and OBLIGATIONS.json
name. -/

open Sys2Proof Sys2Proof.Machine

/-! ### Encoding -/

/-- Words written out from 30_encoding.md R300 to R312 decode to the instructions they stand for. -/
def Obligations.SpecWordsDecode : Prop :=
  decode [0xB8, 0x34, 0x12] = .ok (.movAXIw 0x1234, []) ∧
    decode [0x00, 0xC0] = .ok (.addEbGb (.reg .al) .al, []) ∧
      decode [0x8E, 0xD8] = .ok (.movDSEw (.reg .ax), []) ∧
        decode [0xC5, 0x36, 0x00, 0x06] = .ok (.ldsGwMp .si (.direct 0x0600), []) ∧
          decode [0xD3, 0xE0] = .ok (.shlEwCL (.reg .ax), []) ∧
            decode [0xEA, 0x00, 0x00, 0x00, 0x10] = .ok (.jmpAp 0x0000 0x1000, []) ∧
              decode [0xF6, 0xF3] = .ok (.divEb (.reg .bl), []) ∧
                decode [0xF3, 0xA4] = .ok (.rep, [0xA4]) ∧ decode [0x0F] = .ok (.refused 0x0F [], [])

/-- Decoding the bytes of any well-formed instruction gives it back and leaves the bytes after it (R300 to R316). -/
def Obligations.DecodeEncode : Prop := ∀ i : Instr, i.wf = true → ∀ rest, decode (encode i ++ rest) = .ok (i, rest)

/-- 30_encoding.md R314: the undocumented encodings decode exactly as the instructions they alias, SALC is an
instruction of its own, and LEA with a register operand is admitted with an unspecified result. -/
def Obligations.AliasesDecodeAlike : Prop :=
  (∀ n : Fin 16, ∀ rest, decode (BitVec.ofNat 8 (0x60 + n) :: rest) = decode (BitVec.ofNat 8 (0x70 + n) :: rest)) ∧
    (∀ rest, decode (0x82 :: rest) = decode (0x80 :: rest)) ∧
      (∀ rest, decode (0xC0 :: rest) = decode (0xC2 :: rest) ∧ decode (0xC1 :: rest) = decode (0xC3 :: rest)) ∧
        (∀ rest, decode (0xC8 :: rest) = decode (0xCA :: rest) ∧ decode (0xC9 :: rest) = decode (0xCB :: rest)) ∧
          (∀ rest, decode (0xF1 :: rest) = decode (0xF0 :: rest)) ∧
            (∀ mod rm rest,
              decode (0xF6 :: modRMByte mod 1 rm :: rest) = decode (0xF6 :: modRMByte mod 0 rm :: rest) ∧
                decode (0xF7 :: modRMByte mod 1 rm :: rest) = decode (0xF7 :: modRMByte mod 0 rm :: rest)) ∧
              (∀ (r : BitVec 3) mod rm rest,
                decode (0x8C :: modRMByte mod (r ||| 4) rm :: rest) = decode (0x8C :: modRMByte mod (r &&& 3) rm :: rest)) ∧
                (∀ (r : BitVec 3) mod rm rest, r = 0 ∨ r = 2 ∨ r = 3 →
                  decode (0x8E :: modRMByte mod (r ||| 4) rm :: rest) = decode (0x8E :: modRMByte mod r rm :: rest)) ∧
                  (∀ rest, decode (0xD6 :: rest) = .ok (.salc, rest)) ∧
                    ∀ (g : Reg16) (r : Reg16) rest,
                      decode (0x8D :: modRMByte 3 g.bits r.bits :: rest) = .ok (.leaGwM g (.reg r), rest) ∧
                        ∀ s, Completes (.leaGwM g (.reg r)) s fun t => ∃ v, Moved16 s t (.reg g) v

/-- The encodings R313 names decode to `refused`, after their displacement and immediate bytes are read, and not before:
the displacement of R306, and for C6 and C7 the immediate, whatever their reg field is (R316). The refusal of MUL, IMUL, DIV
and IDIV under a repeat prefix is in `RefusalSetsMark`. -/
def Obligations.RefusedEncodings : Prop :=
  (∀ rest, decode (0x0F :: rest) = .ok (.refused 0x0F [], rest)) ∧
    ∀ (op : Byte) (mod : BitVec 2) (reg rm : BitVec 3) (operands : List Byte),
      (op = 0x8E ∧ (reg = 1 ∨ reg = 5)) ∨ ((op = 0x8F ∨ op = 0xC6 ∨ op = 0xC7) ∧ reg ≠ 0) ∨
          ((op = 0xD0 ∨ op = 0xD1 ∨ op = 0xD2 ∨ op = 0xD3) ∧ reg = 6) ∨ (op = 0xFE ∧ 2 ≤ reg.toNat) ∨
          (op = 0xFF ∧ reg = 7) ∨ (op = 0xFF ∧ (reg = 3 ∨ reg = 5) ∧ mod = 3) ∨
          ((op = 0xC4 ∨ op = 0xC5) ∧ mod = 3) →
        let b := modRMByte mod reg rm
        let disp := if mod = 0 then (if rm = 6 then 2 else 0) else if mod = 1 then 1 else if mod = 2 then 2 else 0
        let n := disp + (if op = 0xC6 then 1 else if op = 0xC7 then 2 else 0)
        (operands.length = n →
          ∀ rest, decode (op :: b :: (operands ++ rest)) = .ok (.refused op (b :: operands), rest)) ∧
          (operands.length < n → decode (op :: b :: operands) = .error .truncated)

/-! ### Registers and flags -/

/-- 10_state.md R100: the halves of AX, BX, CX and DX are aliases; a byte write changes exactly its 8 bits, a word write
both halves; every register is readable and writable. -/
def Obligations.ByteHalvesAlias : Prop :=
  ∀ s : State,
    (s.reg8 .al = loByte s.regs.ax ∧ s.reg8 .ah = hiByte s.regs.ax ∧ s.reg8 .bl = loByte s.regs.bx ∧
        s.reg8 .bh = hiByte s.regs.bx ∧ s.reg8 .cl = loByte s.regs.cx ∧ s.reg8 .ch = hiByte s.regs.cx ∧
        s.reg8 .dl = loByte s.regs.dx ∧ s.reg8 .dh = hiByte s.regs.dx) ∧
      (∀ r v, OnlyReg8 s (s.setReg8 r v) r v) ∧ (∀ r v, OnlyReg16 s (s.setReg16 r v) r v) ∧
        ∀ v, ((s.setReg16 .ax v).reg8 .al = loByte v ∧ (s.setReg16 .ax v).reg8 .ah = hiByte v) ∧
          ((s.setReg16 .bx v).reg8 .bl = loByte v ∧ (s.setReg16 .bx v).reg8 .bh = hiByte v) ∧
            ((s.setReg16 .cx v).reg8 .cl = loByte v ∧ (s.setReg16 .cx v).reg8 .ch = hiByte v) ∧
              (s.setReg16 .dx v).reg8 .dl = loByte v ∧ (s.setReg16 .dx v).reg8 .dh = hiByte v

/-- The FLAGS word has the nine flags at their bits and the fixed values at the reserved ones, and a word written to FLAGS
keeps only those nine bits (10_state.md R108, R109). -/
def Obligations.FlagsWord : Prop :=
  (∀ f : Flags,
      (f.toWord.getLsbD 0 = f.cf ∧ f.toWord.getLsbD 2 = f.pf ∧ f.toWord.getLsbD 4 = f.af ∧ f.toWord.getLsbD 6 = f.zf ∧
          f.toWord.getLsbD 7 = f.sf ∧ f.toWord.getLsbD 8 = f.tf ∧ f.toWord.getLsbD 9 = f.ifl ∧
          f.toWord.getLsbD 10 = f.df ∧ f.toWord.getLsbD 11 = f.ofl) ∧
        f.toWord &&& 0xF02A = 0xF002 ∧ Flags.ofWord f.toWord = f) ∧
    ∀ w : Word, (Flags.ofWord w).toWord = (w &&& 0x0FD5) ||| 0xF002

/-! ### Memory and addresses -/

/-- 20_memory.md R202: the linear address is the sum modulo 2^20. -/
def Obligations.LinearAddressWraps : Prop :=
  (∀ seg off : Word, (lin seg off).toNat = (seg.toNat * 16 + off.toNat) % 2 ^ 20) ∧ lin 0xFFFF 0x0010 = 0

/-- A word access of RAM is two byte transactions, the low byte at the offset first, then the high byte at the offset
plus 1 modulo 2^16 (20_memory.md R203 to R205); a read of an address with no device gives 0xFF and a write there changes
nothing; a device's answer is what a read of it gives, and a write to it leaves RAM alone (20_memory.md R210). -/
def Obligations.ReadsAndWrites : Prop :=
  (∀ (s : State) (seg off : Word), s.IsRam (lin seg off) → s.IsRam (lin seg (off + 1)) →
    (let lo := s.mem.read (lin seg off)
     let hi := s.mem.read (lin seg (off + 1))
     (s.readW seg off).1 = wordOf lo hi ∧
       (s.readW seg off).2 =
         { s with
           bus := s.bus ++
             [{ kind := .memRead, addr := lin seg off, data := lo, lock := s.eu.lockActive, final := false },
              { kind := .memRead, addr := lin seg (off + 1), data := hi, lock := s.eu.lockActive, final := true }] }) ∧
      ∀ v, (s.writeW seg off v).bus = s.bus ++
          [{ kind := .memWrite, addr := lin seg off, data := loByte v, lock := s.eu.lockActive, final := false },
           { kind := .memWrite, addr := lin seg (off + 1), data := hiByte v, lock := s.eu.lockActive,
             final := true }] ∧
        (s.MemOk → MemAfter s (s.writeW seg off v) (wordStores seg off v))) ∧
    (∀ (s : State) (seg off : Word),
    (s.plat.kindAt (lin seg off) = some .unmapped →
        (s.readB seg off).1 = 0xFF ∧ ∀ v, (s.writeB seg off v).mem = s.mem) ∧
      (s.plat.kindAt (lin seg off) = some .device →
        (∀ x xs, s.plat.answers = x :: xs → (s.readB seg off).1 = x ∧ (s.readB seg off).2.plat.answers = xs) ∧
          ∀ v, (s.writeB seg off v).mem = s.mem))

/-- The effective address of each of the memory forms, its default segment, and the override (30_encoding.md R306 to
R308), the same for an operand without ModR/M, by its default; and reading an r/m operand: a register, or the memory at
SEG:EA (R317). -/
def Obligations.EffectiveAddress : Prop :=
  ∀ (s : State) (d : Disp) (off : Word),
    let x : Word := match d with | .none => 0 | .d8 b => b.signExtend 16 | .d16 w => w
    let r := s.regs
    (s.ea (.direct off) = off ∧ s.ea (.based .bxsi d) = r.bx + r.si + x ∧ s.ea (.based .bxdi d) = r.bx + r.di + x ∧
        s.ea (.based .bpsi d) = r.bp + r.si + x ∧ s.ea (.based .bpdi d) = r.bp + r.di + x ∧
        s.ea (.based .si d) = r.si + x ∧ s.ea (.based .di d) = r.di + x ∧ s.ea (.based .bp d) = r.bp + x ∧
        s.ea (.based .bx d) = r.bx + x) ∧
      (s.eu.segOverride = none →
        s.eaSeg (.direct off) = s.sregs.ds ∧ s.eaSeg (.based .bxsi d) = s.sregs.ds ∧
          s.eaSeg (.based .bxdi d) = s.sregs.ds ∧ s.eaSeg (.based .bpsi d) = s.sregs.ss ∧
          s.eaSeg (.based .bpdi d) = s.sregs.ss ∧ s.eaSeg (.based .si d) = s.sregs.ds ∧
          s.eaSeg (.based .di d) = s.sregs.ds ∧ s.eaSeg (.based .bp d) = s.sregs.ss ∧
          s.eaSeg (.based .bx d) = s.sregs.ds) ∧
        (∀ g a, s.eu.segOverride = some g → s.eaSeg a = s.sreg g) ∧
          (∀ dflt, (s.eu.segOverride = none → s.segValue dflt = s.sreg dflt) ∧
            ∀ g, s.eu.segOverride = some g → s.segValue dflt = s.sreg g) ∧
            (∀ r, s.readRM8 (.reg r) = (s.reg8 r, s)) ∧ (∀ r, s.readRM16 (.reg r) = (s.reg16 r, s)) ∧
              ∀ a, s.readRM8 (.mem a) = s.readB (s.eaSeg a) (s.ea a) ∧
                s.readRM16 (.mem a) = s.readW (s.eaSeg a) (s.ea a)

/-! ### The ALU -/

/-- 41_arithmetic.md R503: the result and the flags of an addition, for both widths; ADD uses a carry of 0 and ADC the
carry flag; OF says that the signed sum does not fit. -/
def Obligations.AdditionCore : Prop :=
  ∀ (w : Nat) (f : Flags) (a b : BitVec w) (c : Bool), w = 8 ∨ w = 16 →
    let r := addResult a b c
    let g := addFlags f a b c
    (r.toNat = (a.toNat + b.toNat + c.toNat) % 2 ^ w ∧ (g.cf = true ↔ 2 ^ w ≤ a.toNat + b.toNat + c.toNat) ∧
        (g.ofl = true ↔ a.msb = b.msb ∧ r.msb ≠ a.msb) ∧
        (g.ofl = true ↔ a.toInt + b.toInt + c.toNat < -(2 ^ (w - 1)) ∨ 2 ^ (w - 1) - 1 < a.toInt + b.toInt + c.toNat) ∧
        (g.af = true ↔ 15 < a.toNat % 16 + b.toNat % 16 + c.toNat) ∧ g.sf = r.msb ∧ (g.zf = true ↔ r.toNat = 0) ∧
        g.pf = parity (r.setWidth 8) ∧ g.tf = f.tf ∧ g.ifl = f.ifl ∧ g.df = f.df) ∧
      (AluOp.add.result a b f.cf = addResult a b false ∧ AluOp.add.flags f a b = addFlags f a b false ∧
        AluOp.adc.result a b f.cf = addResult a b f.cf ∧ AluOp.adc.flags f a b = addFlags f a b f.cf)

/-- 41_arithmetic.md R504: the result and the flags of a subtraction; SUB and CMP use a borrow of 0, SBB the carry flag. -/
def Obligations.SubtractionCore : Prop :=
  ∀ (w : Nat) (f : Flags) (a b : BitVec w) (c : Bool), w = 8 ∨ w = 16 →
    let r := subResult a b c
    let g := subFlags f a b c
    ((r.toNat : Int) = ((a.toNat : Int) - b.toNat - c.toNat) % 2 ^ w ∧
        (g.cf = true ↔ a.toNat < b.toNat + c.toNat) ∧ (g.ofl = true ↔ a.msb ≠ b.msb ∧ r.msb ≠ a.msb) ∧
        (g.af = true ↔ a.toNat % 16 < b.toNat % 16 + c.toNat) ∧ g.sf = r.msb ∧ (g.zf = true ↔ r.toNat = 0) ∧
        g.pf = parity (r.setWidth 8) ∧ g.tf = f.tf ∧ g.ifl = f.ifl ∧ g.df = f.df) ∧
      (AluOp.sub.result a b f.cf = subResult a b false ∧ AluOp.sub.flags f a b = subFlags f a b false ∧
        AluOp.cmp.flags f a b = subFlags f a b false ∧ AluOp.sbb.result a b f.cf = subResult a b f.cf ∧
        AluOp.sbb.flags f a b = subFlags f a b f.cf)

/-- The results and flags of the logic operations, AF apart, which is drawn (42_logic_shift.md R600 to R604); and PF is
the parity of the low byte (41_arithmetic.md R501). -/
def Obligations.LogicCore : Prop :=
  (∀ (w : Nat) (f : Flags) (a b : BitVec w), w = 8 ∨ w = 16 →
      AluOp.and.result a b f.cf = a &&& b ∧ AluOp.or.result a b f.cf = a ||| b ∧
        AluOp.xor.result a b f.cf = a ^^^ b ∧
          ∀ op r, (op = .and ∧ r = a &&& b) ∨ (op = .test ∧ r = a &&& b) ∨ (op = .or ∧ r = a ||| b) ∨
              (op = .xor ∧ r = a ^^^ b) →
            let g := AluOp.flags op f a b
            g.cf = false ∧ g.ofl = false ∧ g.sf = r.msb ∧ (g.zf = true ↔ r.toNat = 0) ∧
              g.pf = parity (r.setWidth 8) ∧ g.tf = f.tf ∧ g.ifl = f.ifl ∧ g.df = f.df) ∧
    ∀ b : Byte, parity b = decide (((List.range 8).filter fun i => b.getLsbD i).length % 2 = 0)

/-- Subtracting what was added gives the other operand back, with the same CF and OF (41_arithmetic.md R526). -/
def Obligations.AddThenSubtract : Prop :=
  ∀ (f : Flags) (a b : Word),
    let r := addResult a b false
    subResult r b false = a ∧ (subFlags f r b false).cf = (addFlags f a b false).cf ∧
      (subFlags f r b false).ofl = (addFlags f a b false).ofl

/-- Every binary ALU instruction on bytes, in every form: E with G, E with an immediate, AL with an immediate, G with E
(41_arithmetic.md R500, R505 to R509, 42_logic_shift.md R601 to R604): it completes, its result goes to its destination,
and nothing else changes but the flags. -/
def Obligations.AluBytes : Prop :=
  ∀ (op : AluOp) (s : State), s.MemOk →
    (∀ m g, Completes (instrEbGb op m g) s fun t => AluDone8 s t op m (s.readRM8 m).1 (s.reg8 g)) ∧
      (∀ m imm, Completes (instrEbIb op m imm) s fun t => AluDone8 s t op m (s.readRM8 m).1 imm) ∧
        (∀ imm, Completes (instrALIb op imm) s fun t => AluDone8 s t op (.reg .al) (s.reg8 .al) imm) ∧
          ∀ f, instrGbEb op = some f → ∀ g m,
            Completes (f g m) s fun t => AluDone8 s t op (.reg g) (s.reg8 g) (s.readRM8 m).1

/-- Every binary ALU instruction on words, in every form (41_arithmetic.md R500, R505 to R509, 42_logic_shift.md R601 to
R604); the immediate byte of opcode 83 is sign-extended. -/
def Obligations.AluWords : Prop :=
  ∀ (op : AluOp) (s : State), s.MemOk →
    (∀ m g, Completes (instrEwGw op m g) s fun t => AluDone16 s t op m (s.readRM16 m).1 (s.reg16 g)) ∧
      (∀ m imm, Completes (instrEwIw op m imm) s fun t => AluDone16 s t op m (s.readRM16 m).1 imm) ∧
        (∀ f, instrEwIbs op = some f → ∀ m imm,
          Completes (f m imm) s fun t => AluDone16 s t op m (s.readRM16 m).1 (imm.signExtend 16)) ∧
          (∀ imm, Completes (instrAXIw op imm) s fun t => AluDone16 s t op (.reg .ax) s.regs.ax imm) ∧
            ∀ f, instrGwEw op = some f → ∀ g m,
              Completes (f g m) s fun t => AluDone16 s t op (.reg g) (s.reg16 g) (s.readRM16 m).1

/-- INC, DEC, NEG and NOT in every form: INC and DEC leave CF alone, NOT every flag (41_arithmetic.md R510 to R512,
42_logic_shift.md R605). -/
def Obligations.UnaryOperations : Prop :=
  ∀ s : State, s.MemOk →
    (∀ m : RM Reg8,
      let a := (s.readRM8 m).1
      (Completes (.incEb m) s fun t => SameCore s t ∧ Wrote8 s t m (a + 1) ∧
          t.flags = { addFlags s.flags a 1 false with cf := s.flags.cf }) ∧
        (Completes (.decEb m) s fun t => SameCore s t ∧ Wrote8 s t m (a - 1) ∧
          t.flags = { subFlags s.flags a 1 false with cf := s.flags.cf }) ∧
        (Completes (.negEb m) s fun t => SameCore s t ∧ Wrote8 s t m (-a) ∧ t.flags = subFlags s.flags 0 a false) ∧
        Completes (.notEb m) s fun t => SameCore s t ∧ Wrote8 s t m (~~~a) ∧ t.flags = s.flags) ∧
      (∀ m : RM Reg16,
        let a := (s.readRM16 m).1
        (Completes (.incEw m) s fun t => SameCore s t ∧ Wrote16 s t m (a + 1) ∧
            t.flags = { addFlags s.flags a 1 false with cf := s.flags.cf }) ∧
          (Completes (.decEw m) s fun t => SameCore s t ∧ Wrote16 s t m (a - 1) ∧
            t.flags = { subFlags s.flags a 1 false with cf := s.flags.cf }) ∧
          (Completes (.negEw m) s fun t => SameCore s t ∧ Wrote16 s t m (-a) ∧ t.flags = subFlags s.flags 0 a false) ∧
          Completes (.notEw m) s fun t => SameCore s t ∧ Wrote16 s t m (~~~a) ∧ t.flags = s.flags) ∧
        ∀ r : Reg16,
          (Completes (instrInc r) s fun t => SameCore s t ∧ Wrote16 s t (.reg r) (s.reg16 r + 1) ∧
              t.flags = { addFlags s.flags (s.reg16 r) 1 false with cf := s.flags.cf }) ∧
            Completes (instrDec r) s fun t => SameCore s t ∧ Wrote16 s t (.reg r) (s.reg16 r - 1) ∧
              t.flags = { subFlags s.flags (s.reg16 r) 1 false with cf := s.flags.cf }

/-- 41_arithmetic.md R512: the flags of NEG in closed form. -/
def Obligations.NegFlags : Prop :=
  ∀ (w : Nat) (f : Flags) (a : BitVec w), w = 8 ∨ w = 16 →
    let g := subFlags f 0 a false
    (g.cf = true ↔ a.toNat ≠ 0) ∧ (g.ofl = true ↔ a.toNat = 2 ^ (w - 1)) ∧ (g.af = true ↔ a.toNat % 16 ≠ 0) ∧
      g.sf = (-a).msb ∧ (g.zf = true ↔ a.toNat = 0)

/-! ### Shifts and rotates -/

/-- Every shift and rotate by 1 or by CL, all eight bits of it: it completes, and its operand and flags are those of the
step applied that many times; a count of 0 changes nothing (42_logic_shift.md R606, R607). -/
def Obligations.ShiftsComplete : Prop :=
  ∀ (op : ShiftOp) (s : State), s.MemOk →
    (∀ m, (Completes (instrShiftEb1 op m) s fun t => ShiftDone8 s t op 1 m) ∧
        Completes (instrShiftEbCL op m) s fun t => ShiftDone8 s t op (s.reg8 .cl).toNat m) ∧
      ∀ m, (Completes (instrShiftEw1 op m) s fun t => ShiftDone16 s t op 1 m) ∧
        Completes (instrShiftEwCL op m) s fun t => ShiftDone16 s t op (s.reg8 .cl).toNat m

/-- What the bit steps come to, for every count n (42_logic_shift.md R607 to R614): n steps of SHL, SHR and SAR shift by n,
of ROL and ROR rotate by n, of RCL and RCR rotate CF and the operand together by n; CF after them is the last bit shifted
or rotated out, and after none what it was; and OF of a count of 1. -/
def Obligations.ShiftSteps : Prop :=
  (∀ (w : Nat) (v : BitVec w) (c : Bool), w = 8 ∨ w = 16 →
    (∀ n : Nat,
      (ShiftOp.shl.steps n v c).1 = v <<< n ∧ (ShiftOp.shr.steps n v c).1 = v >>> n ∧
        (ShiftOp.sar.steps n v c).1 = v.sshiftRight n ∧ (ShiftOp.rol.steps n v c).1 = v.rotateLeft n ∧
        (ShiftOp.ror.steps n v c).1 = v.rotateRight n ∧
        BitVec.cons (ShiftOp.rcl.steps n v c).2 (ShiftOp.rcl.steps n v c).1 = (BitVec.cons c v).rotateLeft n ∧
        BitVec.cons (ShiftOp.rcr.steps n v c).2 (ShiftOp.rcr.steps n v c).1 = (BitVec.cons c v).rotateRight n) ∧
      (∀ op : ShiftOp, op.steps 0 v c = (v, c)) ∧
      (∀ n : Nat, 0 < n →
        (n ≤ w → (ShiftOp.shl.steps n v c).2 = v.getLsbD (w - n)) ∧ (w < n → (ShiftOp.shl.steps n v c).2 = false) ∧
          (ShiftOp.shr.steps n v c).2 = v.getLsbD (n - 1) ∧
          (n ≤ w → (ShiftOp.sar.steps n v c).2 = v.getLsbD (n - 1)) ∧ (w < n → (ShiftOp.sar.steps n v c).2 = v.msb) ∧
          (ShiftOp.rol.steps n v c).2 = (v.rotateLeft n).getLsbD 0 ∧
          (ShiftOp.ror.steps n v c).2 = (v.rotateRight n).msb) ∧
      (ShiftOp.rcl.steps (w + 1) v c = (v, c) ∧ ShiftOp.rcr.steps (w + 1) v c = (v, c)) ∧
        ((ShiftOp.rol.steps w v c).2 = v.getLsbD 0 ∧ (ShiftOp.ror.steps w v c).2 = v.msb)) ∧
    (∀ (w : Nat) (v : BitVec w) (c : Bool), w = 8 ∨ w = 16 →
    let r := fun op => (ShiftOp.steps op 1 v c).1
    let cf := fun op => (ShiftOp.steps op 1 v c).2
    let ov := fun op => ShiftOp.overflow op v (r op) (cf op)
    (cf .rol = v.msb ∧ cf .rcl = v.msb ∧ cf .shl = v.msb ∧ cf .ror = v.getLsbD 0 ∧ cf .rcr = v.getLsbD 0 ∧
        cf .shr = v.getLsbD 0 ∧ cf .sar = v.getLsbD 0) ∧
      (r .rcl).getLsbD 0 = c ∧ (r .rcr).msb = c ∧
        (ov .rol = ((r .rol).msb ^^ v.msb) ∧ ov .rcl = ((r .rcl).msb ^^ v.msb) ∧ ov .shl = ((r .shl).msb ^^ v.msb) ∧
          ov .ror = (v.msb ^^ v.getLsbD 0) ∧ ov .rcr = (v.msb ^^ c) ∧ ov .shr = v.msb ∧ ov .sar = false))

/-! ### Data transfer -/

/-- Every MOV but those of segment registers: E and G, immediates, and the accumulator with a direct offset, whose
default segment is DS (40_data_transfer.md R400 to R402, R405, R406). -/
def Obligations.Moves : Prop :=
  ∀ s : State, s.MemOk →
    (∀ m g, (Completes (.movEbGb m g) s fun t => Moved8 s t m (s.reg8 g)) ∧
        Completes (.movGbEb g m) s fun t => Moved8 s t (.reg g) (s.readRM8 m).1) ∧
      (∀ m g, (Completes (.movEwGw m g) s fun t => Moved16 s t m (s.reg16 g)) ∧
        Completes (.movGwEw g m) s fun t => Moved16 s t (.reg g) (s.readRM16 m).1) ∧
      (∀ m imm, Completes (.movEbIb m imm) s fun t => Moved8 s t m imm) ∧
      (∀ m imm, Completes (.movEwIw m imm) s fun t => Moved16 s t m imm) ∧
      (∀ r imm, Completes (instrMovIb r imm) s fun t => Moved8 s t (.reg r) imm) ∧
      (∀ r imm, Completes (instrMovIw r imm) s fun t => Moved16 s t (.reg r) imm) ∧
      ∀ off,
        (Completes (.movALOb off) s fun t => Moved8 s t (.reg .al) (s.readB (s.segValue .ds) off).1) ∧
          (Completes (.movAXOw off) s fun t => Moved16 s t (.reg .ax) (s.readW (s.segValue .ds) off).1) ∧
          (Completes (.movObAL off) s fun t => SameCore s t ∧ t.flags = s.flags ∧ RegsSame s t ∧
            MemAfter s t (byteStore (s.segValue .ds) off (s.reg8 .al))) ∧
          Completes (.movOwAX off) s fun t => SameCore s t ∧ t.flags = s.flags ∧ RegsSame s t ∧
            MemAfter s t (wordStores (s.segValue .ds) off s.regs.ax)

/-- MOV and POP of a segment register write it and, when SREG_LOAD_INHIBIT is true, set the shadow in which no interrupt
is recognised; MOV Ew,Sw reads one (40_data_transfer.md R403, R404, R416, 60_exceptions.md R1050). -/
def Obligations.SegmentRegisterMoves : Prop :=
  ∀ s : State, s.MemOk →
    let shadow : Eu := { s.eu with inhibitAll := s.eu.inhibitAll || s.cfg.sregLoadInhibit }
    (∀ g m, Completes (instrMovFromSeg g m) s fun t => Moved16 s t m (s.sreg g)) ∧
      (∀ g f, instrMovToSeg g = some f → ∀ m,
        Completes (f m) s fun t => SameFixed s t ∧ WroteNothing s t ∧ t.flags = s.flags ∧ t.ip = s.ip ∧
          t.biu = s.biu ∧ t.eu = shadow ∧ t.sreg g = (s.readRM16 m).1 ∧ ∀ h, h ≠ g → t.sreg h = s.sreg h) ∧
        ∀ g i, instrPopSeg g = some i →
          Completes i s fun t => SameFixed s t ∧ OnlySp s t (s.regs.sp + 2) ∧ MemSame s t ∧ t.flags = s.flags ∧
            t.ip = s.ip ∧ t.biu = s.biu ∧ t.eu = shadow ∧ t.sreg g = s.top ∧ ∀ h, h ≠ g → t.sreg h = s.sreg h

/-- PUSH in every form: of a word register (PUSH SP pushes the decremented SP), of a segment register, of E, and of FLAGS
(40_data_transfer.md R410 to R413). For SP through r/m the word is the old SP or the old SP - 2. -/
def Obligations.Pushes : Prop :=
  ∀ s : State, s.MemOk →
    (∀ r, Completes (instrPush r) s fun t => Pushed s t (if r = .sp then s.regs.sp - 2 else s.reg16 r)) ∧
      (∀ g, Completes (instrPushSeg g) s fun t => Pushed s t (s.sreg g)) ∧
        (∀ m, m ≠ .reg .sp → Completes (.pushEw m) s fun t => Pushed s t (s.readRM16 m).1) ∧
          (Completes (.pushEw (.reg .sp)) s fun t => Pushed s t s.regs.sp ∨ Pushed s t (s.regs.sp - 2)) ∧
            Completes .pushf s fun t => Pushed s t s.flags.toWord

/-- POP of a word register, of E, and of FLAGS: SP moves up by 2 and then the destination gets the word, so that POP SP
leaves SP equal to it (40_data_transfer.md R415, R417, R418). -/
def Obligations.Pops : Prop :=
  ∀ s : State, s.MemOk →
    (∀ r, Completes (instrPop r) s fun t => SameCore s t ∧ MemSame s t ∧ t.flags = s.flags ∧ t.reg16 r = s.top ∧
        (r ≠ .sp → t.regs.sp = s.regs.sp + 2) ∧ ∀ q, q ≠ r → q ≠ .sp → t.reg16 q = s.reg16 q) ∧
      (∀ r, Completes (.popEw (.reg r)) s fun t => SameCore s t ∧ MemSame s t ∧ t.flags = s.flags ∧ t.reg16 r = s.top ∧
        (r ≠ .sp → t.regs.sp = s.regs.sp + 2) ∧ ∀ q, q ≠ r → q ≠ .sp → t.reg16 q = s.reg16 q) ∧
        (∀ a, Completes (.popEw (.mem a)) s fun t => SameCore s t ∧ t.flags = s.flags ∧ OnlySp s t (s.regs.sp + 2) ∧
          MemAfter s t (wordStores (s.eaSeg a) (s.ea a) s.top)) ∧
          Completes .popf s fun t => SameCore s t ∧ MemSame s t ∧ OnlySp s t (s.regs.sp + 2) ∧
            t.flags = Flags.ofWord s.top

/-- XCHG exchanges E and G, whatever they are, and NOP (XCHG AX,AX) changes nothing (40_data_transfer.md R419, R420). -/
def Obligations.Exchanges : Prop :=
  ∀ s : State, s.MemOk →
    (∀ r g, Completes (.xchgEbGb (.reg r) g) s fun t => SameCore s t ∧ MemSame s t ∧ t.flags = s.flags ∧
        t.reg8 r = s.reg8 g ∧ t.reg8 g = s.reg8 r ∧ (∀ q, q ≠ r → q ≠ g → t.reg8 q = s.reg8 q) ∧
          t.regs.sp = s.regs.sp ∧ t.regs.bp = s.regs.bp ∧ t.regs.si = s.regs.si ∧ t.regs.di = s.regs.di) ∧
      (∀ a g, Completes (.xchgEbGb (.mem a) g) s fun t => SameCore s t ∧ t.flags = s.flags ∧
        OnlyReg8 s t g (s.readB (s.eaSeg a) (s.ea a)).1 ∧ MemAfter s t (byteStore (s.eaSeg a) (s.ea a) (s.reg8 g))) ∧
        (∀ r g, Completes (.xchgEwGw (.reg r) g) s fun t => SameCore s t ∧ MemSame s t ∧ t.flags = s.flags ∧
          t.reg16 r = s.reg16 g ∧ t.reg16 g = s.reg16 r ∧ ∀ q, q ≠ r → q ≠ g → t.reg16 q = s.reg16 q) ∧
          (∀ a g, Completes (.xchgEwGw (.mem a) g) s fun t => SameCore s t ∧ t.flags = s.flags ∧
            OnlyReg16 s t g (s.readW (s.eaSeg a) (s.ea a)).1 ∧
              MemAfter s t (wordStores (s.eaSeg a) (s.ea a) (s.reg16 g))) ∧
            (∀ g, Completes (instrXchgAX g) s fun t => SameCore s t ∧ MemSame s t ∧ t.flags = s.flags ∧
              t.reg16 .ax = s.reg16 g ∧ t.reg16 g = s.reg16 .ax ∧ ∀ q, q ≠ .ax → q ≠ g → t.reg16 q = s.reg16 q) ∧
              Completes .nop s fun t => t = s

/-- A byte read from a port is one IoRead transaction: from a claimed port the head of the platform's script, which is
consumed, from a port no device claims 0xFF; a word read is the port, then the port plus 1 modulo 2^16, each byte by its
own port (20_memory.md R207, R210). IN gives what such a read gives; OUT is one IoWrite transaction per byte and changes no
register, flag or memory (40_data_transfer.md R421, R422). -/
def Obligations.InputOutput : Prop :=
  ∀ s : State,
    (∀ port : Word,
      (s.plat.claims port = true → ∀ x xs, s.plat.answers = x :: xs →
        s.ioReadB port = (x, { s with
          plat := { s.plat with answers := xs }
          bus := s.bus ++
            [{ kind := .ioRead, addr := port.setWidth 20, data := x, lock := s.eu.lockActive, final := true }] })) ∧
      (s.plat.claims port = false → s.ioReadB port = (0xFF, { s with
          bus := s.bus ++
            [{ kind := .ioRead, addr := port.setWidth 20, data := 0xFF, lock := s.eu.lockActive, final := true }] })) ∧
      ∃ x y : Byte,
        (s.ioReadW port).1 = wordOf x y ∧
          (s.ioReadW port).2.bus = s.bus ++
            [{ kind := .ioRead, addr := port.setWidth 20, data := x, lock := s.eu.lockActive, final := false },
             { kind := .ioRead, addr := (port + 1).setWidth 20, data := y, lock := s.eu.lockActive, final := true }] ∧
          (s.plat.claims port = false → x = 0xFF) ∧ (s.plat.claims (port + 1) = false → y = 0xFF) ∧
          (s.plat.claims port = true → s.plat.claims (port + 1) = true → ∀ u v vs, s.plat.answers = u :: v :: vs →
            x = u ∧ y = v ∧ (s.ioReadW port).2.plat.answers = vs) ∧
          (s.plat.claims port = true → s.plat.claims (port + 1) = false → ∀ u us, s.plat.answers = u :: us →
            x = u ∧ (s.ioReadW port).2.plat.answers = us) ∧
          (s.plat.claims port = false → s.plat.claims (port + 1) = true → ∀ u us, s.plat.answers = u :: us →
            y = u ∧ (s.ioReadW port).2.plat.answers = us) ∧
          (s.plat.claims port = false → s.plat.claims (port + 1) = false →
            (s.ioReadW port).2.plat.answers = s.plat.answers)) ∧
    (∀ (i : Instr) (port : Word), (∃ imm : Byte, i = .inALIb imm ∧ port = imm.setWidth 16) ∨
        (i = .inALDX ∧ port = s.regs.dx) →
      Completes i s fun t => SameCore s t ∧ MemSame s t ∧ t.flags = s.flags ∧
        OnlyReg8 s t .al (s.ioReadB port).1 ∧ t.bus = (s.ioReadB port).2.bus ∧ t.plat = (s.ioReadB port).2.plat ∧
          (s.plat.claims port = false → t.reg8 .al = 0xFF)) ∧
      (∀ (i : Instr) (port : Word), (∃ imm : Byte, i = .inAXIb imm ∧ port = imm.setWidth 16) ∨
          (i = .inAXDX ∧ port = s.regs.dx) →
        Completes i s fun t => SameCore s t ∧ MemSame s t ∧ t.flags = s.flags ∧
          OnlyReg16 s t .ax (s.ioReadW port).1 ∧ t.bus = (s.ioReadW port).2.bus ∧ t.plat = (s.ioReadW port).2.plat ∧
          (s.plat.claims port = false → s.plat.claims (port + 1) = false → t.regs.ax = 0xFFFF)) ∧
        (∀ (i : Instr) (port : Word), (∃ imm : Byte, i = .outIbAL imm ∧ port = imm.setWidth 16) ∨
            (i = .outDXAL ∧ port = s.regs.dx) →
          Completes i s fun t => t = { s with
            bus := s.bus ++
              [{ kind := .ioWrite, addr := port.setWidth 20, data := s.reg8 .al, lock := s.eu.lockActive,
                 final := true }] }) ∧
          ∀ (i : Instr) (port : Word), (∃ imm : Byte, i = .outIbAX imm ∧ port = imm.setWidth 16) ∨
              (i = .outDXAX ∧ port = s.regs.dx) →
            Completes i s fun t => t = { s with
              bus := s.bus ++
                [{ kind := .ioWrite, addr := port.setWidth 20, data := loByte s.regs.ax, lock := s.eu.lockActive,
                   final := false },
                 { kind := .ioWrite, addr := (port + 1).setWidth 20, data := hiByte s.regs.ax,
                   lock := s.eu.lockActive, final := true }] }

/-- XLAT, LEA, LDS and LES: the far pointer is the offset at EA and the segment at EA + 2; LEA of a register leaves some
value in its destination (40_data_transfer.md R423 to R426). -/
def Obligations.AddressTransfers : Prop :=
  ∀ s : State,
    (Completes .xlat s fun t =>
        Moved8 s t (.reg .al) (s.readB (s.segValue .ds) (s.regs.bx + (s.reg8 .al).setWidth 16)).1) ∧
      (∀ g a, Completes (.leaGwM g (.mem a)) s fun t => Moved16 s t (.reg g) (s.ea a) ∧ t.bus = s.bus) ∧
        (∀ g r, Completes (.leaGwM g (.reg r)) s fun t => ∃ v, Moved16 s t (.reg g) v) ∧
          ∀ (g : Reg16) (a : EA) (i : Instr) (d : SReg), (i = .ldsGwMp g a ∧ d = .ds) ∨ (i = .lesGwMp g a ∧ d = .es) →
            Completes i s fun t =>
              SameFixed s t ∧ MemSame s t ∧ t.flags = s.flags ∧ t.ip = s.ip ∧ t.eu = s.eu ∧ t.biu = s.biu ∧
                OnlyReg16 s t g (s.readW (s.eaSeg a) (s.ea a)).1 ∧
                t.sreg d = ((s.readW (s.eaSeg a) (s.ea a)).2.readW (s.eaSeg a) (s.ea a + 2)).1 ∧
                ∀ h, h ≠ d → t.sreg h = s.sreg h

/-! ### Multiplication, division, adjustment, conversion -/

/-- MUL and IMUL: the exact product in AX or DX:AX, CF and OF telling whether the upper half is significant, the other
arithmetic flags undefined (41_arithmetic.md R513, R514). -/
def Obligations.Multiplication : Prop :=
  ∀ s : State,
    (∀ m, Completes (.mulEb m) s fun t =>
        t.regs.ax.toNat = (s.reg8 .al).toNat * (s.readRM8 m).1.toNat ∧ (∀ q, q ≠ .ax → t.reg16 q = s.reg16 q) ∧
          t.flags.cf = decide (t.reg8 .ah ≠ 0) ∧ t.flags.ofl = t.flags.cf ∧
            OnlyRegsAndFlags s t s.flags [.cf, .ofl, .sf, .zf, .af, .pf]) ∧
      (∀ m, Completes (.mulEw m) s fun t =>
        t.regs.dx.toNat * 2 ^ 16 + t.regs.ax.toNat = s.regs.ax.toNat * (s.readRM16 m).1.toNat ∧
          (∀ q, q ≠ .ax → q ≠ .dx → t.reg16 q = s.reg16 q) ∧
          t.flags.cf = decide (t.regs.dx ≠ 0) ∧ t.flags.ofl = t.flags.cf ∧
            OnlyRegsAndFlags s t s.flags [.cf, .ofl, .sf, .zf, .af, .pf]) ∧
        (∀ m, Completes (.imulEb m) s fun t =>
          t.regs.ax.toInt = (s.reg8 .al).toInt * (s.readRM8 m).1.toInt ∧ (∀ q, q ≠ .ax → t.reg16 q = s.reg16 q) ∧
            t.flags.cf = decide (t.regs.ax ≠ (t.reg8 .al).signExtend 16) ∧ t.flags.ofl = t.flags.cf ∧
              OnlyRegsAndFlags s t s.flags [.cf, .ofl, .sf, .zf, .af, .pf]) ∧
          ∀ m, Completes (.imulEw m) s fun t =>
            (t.regs.dx ++ t.regs.ax).toInt = s.regs.ax.toInt * (s.readRM16 m).1.toInt ∧
              (∀ q, q ≠ .ax → q ≠ .dx → t.reg16 q = s.reg16 q) ∧
              t.flags.cf = decide (t.regs.dx ++ t.regs.ax ≠ t.regs.ax.signExtend 32) ∧ t.flags.ofl = t.flags.cf ∧
                OnlyRegsAndFlags s t s.flags [.cf, .ofl, .sf, .zf, .af, .pf]

/-- DIV and IDIV with a divisor other than 0 and a quotient that fits (within ±127 or ±32767 for IDIV): quotient and
remainder, the signed quotient rounded toward zero and the signed remainder with the sign of the dividend; every arithmetic
flag undefined (41_arithmetic.md R515, R516). -/
def Obligations.DivisionResults : Prop :=
  (∀ s : State,
    (∀ m, let n := s.regs.ax.toNat
      let d := (s.readRM8 m).1.toNat
      d ≠ 0 → n / d ≤ 0xFF → Completes (.divEb m) s fun t =>
        (t.reg8 .al).toNat = n / d ∧ (t.reg8 .ah).toNat = n % d ∧ (∀ q, q ≠ .ax → t.reg16 q = s.reg16 q) ∧
          OnlyRegsAndFlags s t s.flags [.cf, .ofl, .sf, .zf, .af, .pf]) ∧
      ∀ m, let n := s.regs.dx.toNat * 2 ^ 16 + s.regs.ax.toNat
        let d := (s.readRM16 m).1.toNat
        d ≠ 0 → n / d ≤ 0xFFFF → Completes (.divEw m) s fun t =>
          t.regs.ax.toNat = n / d ∧ t.regs.dx.toNat = n % d ∧ (∀ q, q ≠ .ax → q ≠ .dx → t.reg16 q = s.reg16 q) ∧
            OnlyRegsAndFlags s t s.flags [.cf, .ofl, .sf, .zf, .af, .pf]) ∧
    (∀ s : State,
    (∀ m, let n := s.regs.ax.toInt
      let d := (s.readRM8 m).1.toInt
      d ≠ 0 → -127 ≤ n.tdiv d → n.tdiv d ≤ 127 → Completes (.idivEb m) s fun t =>
        (t.reg8 .al).toInt = n.tdiv d ∧ (t.reg8 .ah).toInt = n.tmod d ∧ (∀ q, q ≠ .ax → t.reg16 q = s.reg16 q) ∧
          OnlyRegsAndFlags s t s.flags [.cf, .ofl, .sf, .zf, .af, .pf]) ∧
      ∀ m, let n := (s.regs.dx ++ s.regs.ax).toInt
        let d := (s.readRM16 m).1.toInt
        d ≠ 0 → -32767 ≤ n.tdiv d → n.tdiv d ≤ 32767 → Completes (.idivEw m) s fun t =>
          t.regs.ax.toInt = n.tdiv d ∧ t.regs.dx.toInt = n.tmod d ∧
            (∀ q, q ≠ .ax → q ≠ .dx → t.reg16 q = s.reg16 q) ∧
            OnlyRegsAndFlags s t s.flags [.cf, .ofl, .sf, .zf, .af, .pf])

/-- A divide error of DIV, IDIV or AAM enters interrupt 0 with the offset after the instruction: some state `u` that
differs from the one before in AX (and DX for the word forms; not for AAM), in the arithmetic flags, and in what the
operand read left, is the state the entry is made from (41_arithmetic.md R515, R516, R521, 60_exceptions.md R1011). -/
def Obligations.DivideErrors : Prop :=
  ∀ (s : State) (i : Instr) (written : List Reg16), s.MemOk →
    (∃ m, (i = .divEb m ∧ ((s.readRM8 m).1 = 0 ∨ 0xFF < s.regs.ax.toNat / (s.readRM8 m).1.toNat) ∧ written = [.ax]) ∨
        (i = .idivEb m ∧
          ((s.readRM8 m).1 = 0 ∨ s.regs.ax.toInt.tdiv (s.readRM8 m).1.toInt < -127 ∨
            127 < s.regs.ax.toInt.tdiv (s.readRM8 m).1.toInt) ∧ written = [.ax])) ∨
      (∃ m, (i = .divEw m ∧
          ((s.readRM16 m).1 = 0 ∨
            0xFFFF < (s.regs.dx.toNat * 2 ^ 16 + s.regs.ax.toNat) / (s.readRM16 m).1.toNat) ∧ written = [.ax, .dx]) ∨
        (i = .idivEw m ∧
          ((s.readRM16 m).1 = 0 ∨ (s.regs.dx ++ s.regs.ax).toInt.tdiv (s.readRM16 m).1.toInt < -32767 ∨
            32767 < (s.regs.dx ++ s.regs.ax).toInt.tdiv (s.readRM16 m).1.toInt) ∧ written = [.ax, .dx])) ∨
      (i = .aamIb 0 ∧ written = []) →
    Completes i s fun t => ∃ u, SameCore s u ∧ MemSame s u ∧ (∀ q, q ∉ written → u.reg16 q = s.reg16 q) ∧
      FlagsButFor u.flags s.flags allFlags ∧ u.MemOk ∧ Entered u t 0 s.ip ∧
        EntryLatches u t (s.eu.trapArmed && s.cfg.trapAfterSoftInt) s.eu.lockActive

/-- AAA, AAS, DAA, DAS, AAM with a base other than 0, and AAD, with their defined flags (41_arithmetic.md R517 to
R522). -/
def Obligations.DecimalAdjust : Prop :=
  ∀ s : State,
    let al := s.reg8 .al
    let ah := s.reg8 .ah
    let low := decide (9 < al.toNat % 16) || s.flags.af
    let high := decide (0x99 < al.toNat) || s.flags.cf
    (Completes .aaa s fun t =>
        OnlyReg16 s t .ax (if low then wordOf ((al + 6) &&& 0x0F) (ah + 1) else wordOf (al &&& 0x0F) ah) ∧
          OnlyRegsAndFlags s t { s.flags with af := low, cf := low } [.ofl, .sf, .zf, .pf]) ∧
      (Completes .aas s fun t =>
        OnlyReg16 s t .ax (if low then wordOf ((al - 6) &&& 0x0F) (ah - 1) else wordOf (al &&& 0x0F) ah) ∧
          OnlyRegsAndFlags s t { s.flags with af := low, cf := low } [.ofl, .sf, .zf, .pf]) ∧
      (Completes .daa s fun t =>
        let r := al + (if low then 0x06 else 0) + (if high then 0x60 else 0)
        OnlyReg8 s t .al r ∧ OnlyRegsAndFlags s t (szp { s.flags with af := low, cf := high } r) [.ofl]) ∧
      (Completes .das s fun t =>
        let r := al - (if low then 0x06 else 0) - (if high then 0x60 else 0)
        OnlyReg8 s t .al r ∧
          OnlyRegsAndFlags s t
            (szp { s.flags with af := low, cf := high || (low && (s.flags.cf || decide (al.toNat < 6))) } r) [.ofl]) ∧
      (∀ imm : Byte, imm ≠ 0 → Completes (.aamIb imm) s fun t =>
        (t.reg8 .ah).toNat = al.toNat / imm.toNat ∧ (t.reg8 .al).toNat = al.toNat % imm.toNat ∧
          (∀ q, q ≠ .ax → t.reg16 q = s.reg16 q) ∧
          OnlyRegsAndFlags s t (szp s.flags (t.reg8 .al)) [.ofl, .af, .cf]) ∧
      ∀ imm : Byte, Completes (.aadIb imm) s fun t =>
        (t.reg8 .al).toNat = (al.toNat + ah.toNat * imm.toNat) % 2 ^ 8 ∧ t.reg8 .ah = 0 ∧
          (∀ q, q ≠ .ax → t.reg16 q = s.reg16 q) ∧
          OnlyRegsAndFlags s t (szp s.flags (t.reg8 .al)) [.ofl, .af, .cf]

/-- LAHF puts the low byte of the FLAGS word in AH, SAHF writes SF, ZF, AF, PF and CF from AH and no other flag
(40_data_transfer.md R427, R428); CBW sign-extends AL into AX, CWD extends the sign of AX into DX, SALC sets AL to 0xFF or
0 by CF, and none of the three writes a flag (41_arithmetic.md R523 to R525). -/
def Obligations.Conversions : Prop :=
  (∀ s : State,
    (Completes .lahf s fun t => Moved8 s t (.reg .ah) (loByte s.flags.toWord)) ∧
      Completes .sahf s fun t => OnlyFlags s t
        { s.flags with
          sf := (s.reg8 .ah).getLsbD 7, zf := (s.reg8 .ah).getLsbD 6, af := (s.reg8 .ah).getLsbD 4,
          pf := (s.reg8 .ah).getLsbD 2, cf := (s.reg8 .ah).getLsbD 0 }) ∧
    (∀ s : State,
    (Completes .cbw s fun t => Moved16 s t (.reg .ax) ((s.reg8 .al).signExtend 16)) ∧
      (Completes .cwd s fun t => Moved16 s t (.reg .dx) (if s.regs.ax.getLsbD 15 then 0xFFFF else 0)) ∧
        Completes .salc s fun t => Moved8 s t (.reg .al) (if s.flags.cf then 0xFF else 0))

/-! ### String instructions -/

/-- Each string instruction without a repeat prefix: MOVS, CMPS, SCAS, LODS and STOS at both widths, the source in DS or
the override, the destination in ES, the index registers stepped by the width in the direction of DF (43_string.md R700,
R703 to R707). -/
def Obligations.StringsOnce : Prop :=
  ∀ (s : State) (w : Width), s.MemOk → s.eu.repPrefix = none →
    let step : Word → Word := fun i =>
      let d : Word := match w with | .byte => 1 | .word => 2
      if s.flags.df then i - d else i + d
    let src := s.readWidth w (s.segValue .ds) s.regs.si
    let stores : Word → List (LinAddr × Byte) := fun v =>
      match w with | .byte => byteStore s.sregs.es s.regs.di (loByte v) | .word => wordStores s.sregs.es s.regs.di v
    let cmp : Word → Word → Flags := fun a b =>
      match w with | .byte => subFlags s.flags (loByte a) (loByte b) false | .word => subFlags s.flags a b false
    (Completes (instrString .movs w) s fun t => SameCore s t ∧ t.flags = s.flags ∧ MemAfter s t (stores src.1) ∧
        t.regs = { s.regs with si := step s.regs.si, di := step s.regs.di }) ∧
      (Completes (instrString .cmps w) s fun t => SameCore s t ∧ MemSame s t ∧
        t.flags = cmp src.1 (src.2.readWidth w s.sregs.es s.regs.di).1 ∧
        t.regs = { s.regs with si := step s.regs.si, di := step s.regs.di }) ∧
      (Completes (instrString .scas w) s fun t => SameCore s t ∧ MemSame s t ∧
        t.flags = cmp s.regs.ax (s.readWidth w s.sregs.es s.regs.di).1 ∧
        t.regs = { s.regs with di := step s.regs.di }) ∧
      (Completes (instrString .lods w) s fun t => SameCore s t ∧ MemSame s t ∧ t.flags = s.flags ∧
        t.regs = { s.regs with
          ax := (match w with | .byte => wordOf (loByte src.1) (hiByte s.regs.ax) | .word => src.1),
          si := step s.regs.si }) ∧
      Completes (instrString .stos w) s fun t => SameCore s t ∧ t.flags = s.flags ∧ MemAfter s t (stores s.regs.ax) ∧
        t.regs = { s.regs with di := step s.regs.di }

/-- The repetition of string instructions (43_string.md R701). F3 is REPE and F2 REPNE, each an instruction of its own that
sets the record (the model's choice, log 10); a repeated string instruction with CX = 0 does nothing; else it performs
its first iteration, its record naming the primitive, the width, the condition, the source segment, and the offset of the
byte before the opcode byte. An iteration is the primitive's single operation, then CX counted down; the repetition ends
when CX is 0, and for CMPS and SCAS when ZF fails the condition; else it stays in progress. Each later step is the boundary
check, then, if no interrupt was taken, the next iteration, the BIU fetching ahead (the model's choice, log 12), and the end
of the step with its LOCK (the model's reading, log 13). -/
def Obligations.RepetitionRule : Prop :=
  ((∀ rest, decode (0xF3 :: rest) = .ok (.rep, rest) ∧ decode (0xF2 :: rest) = .ok (.repne, rest)) ∧
      ∀ s, (Completes .rep s fun t => t.eu.repPrefix = some .repe) ∧
        Completes .repne s fun t => t.eu.repPrefix = some .repne) ∧
    (∀ (s : State) (p : StringPrim) (w : Width) (c : RepCond), s.eu.repPrefix = some c →
      (s.regs.cx = 0 → Completes (instrString p w) s fun t => t = s) ∧
        (s.regs.cx ≠ 0 → Completes (instrString p w) s fun t =>
          t = s.iterate { prim := p, width := w, cond := c, seg := s.segReg .ds, resumeIp := s.ip - 2 })) ∧
    (∀ (s : State) (r : RepState),
      let u := s.stringOp r.prim r.width r.seg
      let t := s.iterate r
      let stop := (r.prim = .cmps ∨ r.prim = .scas) ∧
        ((r.cond = .repe ∧ u.flags.zf = false) ∨ (r.cond = .repne ∧ u.flags.zf = true))
      t.regs = { u.regs with cx := s.regs.cx - 1 } ∧ t.flags = u.flags ∧ t.mem = u.mem ∧ t.ip = s.ip ∧
        t.sregs = s.sregs ∧ t.biu = s.biu ∧ (stop ∨ s.regs.cx - 1 = 0 → t.eu = { s.eu with rep := none }) ∧
          (¬stop → s.regs.cx - 1 ≠ 0 → t.eu = { s.eu with rep := some r })) ∧
    ∀ (s c : State) (taken : Bool) (r : RepState), s.refused = false → s.nextInput.reset = false →
      s.eu.decoding = false → s.eu.halted = false → s.eu.waiting = false → s.eu.rep = some r → s.beginStep.boundaryCheck = (taken, c) →
        step s = .next (if taken then c else (c.prefetch c.pins.prefetch).iterate r).endStep

/-! ### Control transfer -/

/-- Every JMP: it goes to its target, flushes the queue, and changes nothing else (44_control_transfer.md R800 to
R805). -/
def Obligations.JumpsGoToTarget : Prop :=
  ∀ s : State,
    (∀ rel, Completes (.jmpJb rel) s fun t =>
        Jumped s t s.sregs.cs (s.ip + rel.signExtend 16) ∧ WroteNothing s t) ∧
      (∀ rel, Completes (.jmpJw rel) s fun t => Jumped s t s.sregs.cs (s.ip + rel) ∧ WroteNothing s t) ∧
        (∀ off seg, Completes (.jmpAp off seg) s fun t => Jumped s t seg off ∧ WroteNothing s t) ∧
          (∀ m, Completes (.jmpEw m) s fun t => Jumped s t s.sregs.cs (s.readRM16 m).1 ∧ WroteNothing s t) ∧
            ∀ a, Completes (.jmpMp a) s fun t =>
              Jumped s t ((s.readW (s.eaSeg a) (s.ea a)).2.readW (s.eaSeg a) (s.ea a + 2)).1
                (s.readW (s.eaSeg a) (s.ea a)).1 ∧ WroteNothing s t

/-- Each conditional jump: taken exactly when its condition on the flags holds, and then it flushes; not taken, it changes
nothing at all (44_control_transfer.md R814 to R830). -/
def Obligations.ConditionalJumps : Prop :=
  ∀ (s : State) (rel : Byte) (c : Cond),
    let f := s.flags
    let taken : Bool := match c with
      | .o => f.ofl | .no => !f.ofl | .b => f.cf | .ae => !f.cf | .e => f.zf | .ne => !f.zf
      | .be => f.cf || f.zf | .a => !(f.cf || f.zf) | .s => f.sf | .ns => !f.sf | .p => f.pf | .np => !f.pf
      | .l => f.sf ^^ f.ofl | .ge => !(f.sf ^^ f.ofl) | .le => f.zf || (f.sf ^^ f.ofl)
      | .g => !(f.zf || (f.sf ^^ f.ofl))
    Completes (instrJcc c rel) s fun t =>
      if taken then Jumped s t s.sregs.cs (s.ip + rel.signExtend 16) ∧ WroteNothing s t else t = s

/-- LOOP, LOOPE and LOOPNE count CX down and jump while it is not 0 and ZF allows; JCXZ jumps when CX is 0 and leaves it
(44_control_transfer.md R831 to R834). -/
def Obligations.LoopsCountCX : Prop :=
  ∀ (s : State) (rel : Byte),
    let tgt := s.ip + rel.signExtend 16
    (∀ (i : Instr) (ok : Bool), (i = .loopJb rel ∧ ok = true) ∨ (i = .loopeJb rel ∧ ok = s.flags.zf) ∨
        (i = .loopneJb rel ∧ ok = !s.flags.zf) →
      Completes i s fun t => OnlyReg16 s t .cx (s.regs.cx - 1) ∧ MemSame s t ∧
        if s.regs.cx - 1 ≠ 0 ∧ ok = true then Jumped s t s.sregs.cs tgt else SameCore s t ∧ t.flags = s.flags) ∧
      Completes (.jcxzJb rel) s fun t =>
        if s.regs.cx = 0 then Jumped s t s.sregs.cs tgt ∧ WroteNothing s t else t = s

/-- Every CALL pushes the offset of the next instruction, a far one CS before it, and goes to its target, which an
indirect form reads before the pushes (44_control_transfer.md R806 to R809). -/
def Obligations.CallsPushReturn : Prop :=
  ∀ s : State, s.MemOk →
    let near : State → Prop := fun t => OnlySp s t (s.regs.sp - 2) ∧
      MemAfter s t (wordStores s.sregs.ss (s.regs.sp - 2) s.ip)
    let far : State → Prop := fun t => OnlySp s t (s.regs.sp - 4) ∧
      MemAfter s t (wordStores s.sregs.ss (s.regs.sp - 2) s.sregs.cs ++ wordStores s.sregs.ss (s.regs.sp - 4) s.ip)
    (∀ rel, Completes (.callJw rel) s fun t => Jumped s t s.sregs.cs (s.ip + rel) ∧ near t) ∧
      (∀ m, Completes (.callEw m) s fun t => Jumped s t s.sregs.cs (s.readRM16 m).1 ∧ near t) ∧
        (∀ off seg, Completes (.callAp off seg) s fun t => Jumped s t seg off ∧ far t) ∧
          ∀ a, Completes (.callMp a) s fun t =>
            Jumped s t ((s.readW (s.eaSeg a) (s.ea a)).2.readW (s.eaSeg a) (s.ea a + 2)).1
              (s.readW (s.eaSeg a) (s.ea a)).1 ∧ far t

/-- Every RET pops its target, a far one IP and then CS, and moves SP up by the immediate; IRET pops IP, CS and FLAGS
(44_control_transfer.md R810 to R813, R838). -/
def Obligations.ReturnsPopTarget : Prop :=
  ∀ s : State,
    let w1 := s.readW s.sregs.ss s.regs.sp
    let w2 := w1.2.readW s.sregs.ss (s.regs.sp + 2)
    let w3 := w2.2.readW s.sregs.ss (s.regs.sp + 4)
    (Completes .ret s fun t => Jumped s t s.sregs.cs w1.1 ∧ OnlySp s t (s.regs.sp + 2) ∧ MemSame s t) ∧
      (∀ imm, Completes (.retIw imm) s fun t =>
        Jumped s t s.sregs.cs w1.1 ∧ OnlySp s t (s.regs.sp + 2 + imm) ∧ MemSame s t) ∧
        (Completes .retf s fun t => Jumped s t w2.1 w1.1 ∧ OnlySp s t (s.regs.sp + 4) ∧ MemSame s t) ∧
          (∀ imm, Completes (.retfIw imm) s fun t =>
            Jumped s t w2.1 w1.1 ∧ OnlySp s t (s.regs.sp + 4 + imm) ∧ MemSame s t) ∧
            Completes .iret s fun t => SameFixed s t ∧ t.ip = w1.1 ∧ t.sregs = { s.sregs with cs := w2.1 } ∧ t.Flushed ∧
              t.eu = s.eu ∧ t.flags = Flags.ofWord w3.1 ∧ OnlySp s t (s.regs.sp + 6) ∧ MemSame s t

/-! ### Interrupts -/

/-- INT n, INT3 and INTO with OF set enter their interrupt with the offset of the next instruction; INTO with OF clear
changes nothing (44_control_transfer.md R835 to R837, 60_exceptions.md R1010 to R1012). -/
def Obligations.SoftwareInterrupts : Prop :=
  ∀ s : State, s.MemOk →
    (∀ (i : Instr) (n : Byte), i = .intIb n ∨ (i = .int3 ∧ n = 3) ∨ (i = .into ∧ n = 4 ∧ s.flags.ofl = true) →
      Completes i s fun t => Entered s t n s.ip ∧
        EntryLatches s t (s.eu.trapArmed && s.cfg.trapAfterSoftInt) s.eu.lockActive) ∧
      (s.flags.ofl = false → Completes .into s fun t => t = s)

/-- Where the stack misses the vector and the vector is RAM, an interrupt entry of any kind reads entry n of the table as it
stood in memory before it, whatever INT_VECTOR_ORDER is, and INT n goes there (60_exceptions.md R1001, R1010). -/
def Obligations.EntryFollowsVector : Prop :=
  ∀ (s : State) (n : Byte), s.MemOk → StackMissesVector s n →
    (∀ j < 4, s.IsRam (lin 0 ((zext16 n <<< 2) + BitVec.ofNat 16 j))) →
      let at' : Nat → Byte := fun j => s.mem.read (BitVec.ofNat 20 (4 * n.toNat + j))
      (∀ ret, vectorRead s n ret = (wordOf (at' 2) (at' 3), wordOf (at' 0) (at' 1))) ∧
      Completes (.intIb n) s fun t =>
        t.ip = wordOf (at' 0) (at' 1) ∧ t.sregs.cs = wordOf (at' 2) (at' 3) ∧ t.sregs.ss = s.sregs.ss ∧
          t.flags.ifl = false ∧ t.flags.tf = false

/-- IRET undoes an interrupt entry: right after INT n, with a stack in RAM, it brings back IP, CS, FLAGS, SP and every
other register (60_exceptions.md R1010, R1070, 44_control_transfer.md R838). -/
def Obligations.IretUndoesEntry : Prop :=
  ∀ (s t : State) (n : Byte), s.MemOk →
    (∀ i < 6, s.IsRam (lin s.sregs.ss (s.regs.sp - 6 + BitVec.ofNat 16 i))) → exec (.intIb n) s = .next t →
      Completes .iret t fun u => u.ip = s.ip ∧ u.sregs = s.sregs ∧ u.flags = s.flags ∧ u.regs = s.regs ∧ u.Flushed

/-- The priority at a boundary: NMI before INTR, INTR before the single-step trap; an interrupt shadow keeps NMI and INTR
out, STI's shadow INTR alone, IF = 0 INTR alone; a trap due with an interrupt fares as TRAP_WITH_INTERRUPT says (its
TRAP_FIRST with INTR as log 28 reads it); with nothing due, no interrupt is taken and nothing but the latches of the
boundary changes (60_exceptions.md R1020, R1030, R1040, R1050, R1051). -/
def Obligations.BoundaryPriority : Prop :=
  ∀ s : State,
    let nmi := s.eu.nmiLatch = true ∧ s.eu.inhibitAll = false
    let intr := s.flags.ifl = true ∧ s.eu.inhibitAll = false ∧ s.eu.inhibitIntr = false
    let held := s.eu.rep.isSome = true ∧ s.cfg.trapPerRepIteration = false
    let trap := s.eu.trapArmed = true ∧ (s.eu.inhibitAll = false ∨ s.cfg.trapAfterSregLoad = true) ∧ ¬held
    let c : State := { s with eu := { s.eu with
      inhibitAll := false, inhibitIntr := false, trapArmed := s.eu.trapArmed && decide held } }
    (nmi → ¬trap → s.boundaryCheck = (true, c.takeNmi)) ∧
      (¬nmi → intr → ¬trap → ∀ v, s.pins.intr = some v → s.boundaryCheck = (true, c.takeIntr v)) ∧
        (¬nmi → ¬(intr ∧ s.pins.intr.isSome = true) → trap → s.boundaryCheck = (true, c.takeTrap)) ∧
          (¬nmi → ¬(intr ∧ s.pins.intr.isSome = true) → ¬trap → s.boundaryCheck = (false, c)) ∧
            (trap → s.cfg.trapWithInterrupt = .lost →
              (nmi → s.boundaryCheck = (true, c.takeNmi)) ∧
                (¬nmi → intr → ∀ v, s.pins.intr = some v → s.boundaryCheck = (true, c.takeIntr v))) ∧
              (trap → s.cfg.trapWithInterrupt = .trapFirst → nmi ∨ (intr ∧ s.pins.intr.isSome = true) →
                s.boundaryCheck = (true, c.takeTrap) ∧ c.takeTrap.eu.nmiLatch = s.eu.nmiLatch) ∧
                (trap → s.cfg.trapWithInterrupt = .trapAfterEntry →
                  (nmi → s.boundaryCheck = (true, c.takeNmi.takeTrap)) ∧
                    (¬nmi → intr → ∀ v, s.pins.intr = some v → s.boundaryCheck = (true, (c.takeIntr v).takeTrap)))

/-- The entries made at a boundary: NMI clears its latch and is type 2, INTR is preceded by two acknowledge cycles under
LOCK and is the type the second one reads, the trap is type 1; each pushes the return offset of the state the core is in,
ends a repetition, a halt and a wait, and leaves no trap armed (60_exceptions.md R1010, R1011, R1020, R1030, R1040,
20_memory.md R243). The model's readings in it: the trap's return offset while waiting (log 14) and between iterations
(log 15), and that the LOCK of a repetition is released before the entry's own transactions (log 13). -/
def Obligations.BoundaryEntries : Prop :=
  ∀ s : State, s.MemOk →
    let ret := if s.eu.waiting = true then s.eu.waitIp else match s.eu.rep with | some r => r.resumeIp | none => s.ip
    let unlocked : Eu := { s.eu with lockActive := false }
    let quiet : State := { s with eu := { unlocked with nmiLatch := false } }
    (Entered quiet s.takeNmi 2 ret ∧ EntryLatches quiet s.takeNmi false false ∧
        ∀ o ∈ s.takeNmi.bus.drop s.bus.length, o.lock = false) ∧
      (Entered { s with eu := unlocked } s.takeTrap 1 ret ∧ EntryLatches s s.takeTrap false false ∧
        ∀ o ∈ s.takeTrap.bus.drop s.bus.length, o.lock = false) ∧
        ∀ v, ∃ a b x, let u : State := { s with
            eu := unlocked
            bus := s.bus ++ [{ kind := .intAck, addr := a, data := x, lock := true, final := false },
              { kind := .intAck, addr := b, data := v, lock := true, final := true }]
            draws := s.draws + 3 }
          Entered u (s.takeIntr v) v ret ∧ EntryLatches u (s.takeIntr v) false false ∧
            ∀ o ∈ (s.takeIntr v).bus.drop u.bus.length, o.lock = false

/-- A halted core stays as it is in every step whose boundary check takes no interrupt: no register, flag or memory changes,
nothing of the EU but the latches of the boundary, and the BIU stays in Ti with fetching halted; any interrupt taken ends the
halt (60_exceptions.md R1060). With IF = 0, no NMI and no trap armed none is taken; an INTR with IF = 1 and no shadow enters
its interrupt with the offset after the HLT (45_processor_control.md R906, 60_exceptions.md R1011). A waiting core, where no interrupt is taken, samples TEST: it waits on while TEST is not
asserted, its wait ends when it is, nothing else changes, and the BIU keeps prefetching (45_processor_control.md R907; how
many bytes in a step is an input, the model's choice, log 12). -/
def Obligations.HaltUntilInterrupt : Prop :=
  (∀ (s c : State) (taken : Bool), s.refused = false → s.nextInput.reset = false → s.eu.decoding = false →
    s.eu.halted = true → s.beginStep.boundaryCheck = (taken, c) →
      ∃ t, step s = .next t ∧ t.eu.halted = !taken ∧
        (taken = false → t.regs = s.regs ∧ t.sregs = s.sregs ∧ t.ip = s.ip ∧ t.flags = s.flags ∧ t.mem = s.mem ∧
          t.plat = s.plat ∧ t.bus = [] ∧ t.biu.tState = .ti ∧ (s.biu.fetch = .halted → t.biu.fetch = .halted) ∧
          ∃ x, t.eu = { s.eu with
            nmiLatch := s.eu.nmiLatch || s.nextInput.nmi, inhibitAll := false, inhibitIntr := false,
            trapArmed := s.eu.trapArmed && s.beginStep.trapDeferred, mcPc := x })) ∧
  (∀ s : State, s.refused = false → s.eu.decoding = false → s.eu.halted = true → s.flags.ifl = false →
    s.eu.trapArmed = false → s.eu.nmiLatch = false → s.nextInput.nmi = false → s.nextInput.reset = false →
      ∃ t, step s = .next t ∧ t.regs = s.regs ∧ t.sregs = s.sregs ∧ t.ip = s.ip ∧ t.flags = s.flags ∧ t.mem = s.mem ∧
        t.bus = [] ∧ t.eu.halted = true) ∧
    (∀ (s : State) (v : Byte), s.Inv → s.refused = false → s.eu.decoding = false → s.eu.halted = true →
    s.eu.waiting = false → s.eu.rep = none → s.flags.ifl = true → s.eu.inhibitAll = false → s.eu.inhibitIntr = false →
      s.eu.trapArmed = false → s.eu.nmiLatch = false → s.nextInput.nmi = false → s.nextInput.reset = false →
        s.nextInput.intr = some v →
          ∃ t, step s = .next t ∧ t.eu.halted = false ∧ t.flags = { s.flags with ifl := false, tf := false } ∧
            MemAfter s t (frameStores s s.ip) ∧ OnlySp s t (s.regs.sp - 6) ∧ t.Flushed) ∧
    ∀ s c : State, s.Inv → s.refused = false → s.eu.decoding = false → s.eu.halted = false → s.eu.waiting = true →
      s.nextInput.reset = false → s.beginStep.boundaryCheck = (false, c) →
        ∃ t, step s = .next t ∧ t.eu = { c.eu with waiting := !s.nextInput.test } ∧ c.eu.waiting = true ∧
          c.eu.waitIp = s.eu.waitIp ∧ t.regs = s.regs ∧ t.sregs = s.sregs ∧ t.ip = s.ip ∧ t.flags = s.flags ∧
            t.mem = s.mem ∧ t.bus = [] ∧ t.biu = (c.prefetch s.nextInput.prefetch).biu ∧ t.biu.derivedIp = s.ip

/-! ### Processor control -/

/-- 45_processor_control.md R900 to R905, R908: the flag instructions write their one flag and nothing else, but that STI
with IF = 0 before it also keeps INTR out of the next boundary. -/
def Obligations.FlagInstructions : Prop :=
  ∀ s : State,
    (Completes .clc s fun t => OnlyFlags s t { s.flags with cf := false }) ∧
      (Completes .stc s fun t => OnlyFlags s t { s.flags with cf := true }) ∧
        (Completes .cmc s fun t => OnlyFlags s t { s.flags with cf := !s.flags.cf }) ∧
          (Completes .cld s fun t => OnlyFlags s t { s.flags with df := false }) ∧
            (Completes .std s fun t => OnlyFlags s t { s.flags with df := true }) ∧
              (Completes .cli s fun t => OnlyFlags s t { s.flags with ifl := false }) ∧
                Completes .sti s fun t => t = { s with
                  flags := { s.flags with ifl := true }
                  eu := { s.eu with inhibitIntr := s.eu.inhibitIntr || !s.flags.ifl } }

/-- HLT halts the core and the BIU's fetching and runs one Halt bus cycle (what its address and data lines show is free, log
21); WAIT ends at once when TEST is asserted and else waits, recording the offset
of its opcode byte; ESC does nothing with a register, and with memory one discarded read if ESC_MEM_READ says so (how wide
that read is, is the model's choice, log 16) (45_processor_control.md R906, R907, R909). -/
def Obligations.HaltWaitEscape : Prop :=
  ∀ s : State,
    (Completes .hlt s fun t => ∃ a v, t = { s with
        eu := { s.eu with halted := true }
        biu := { s.biu with fetch := .halted }
        bus := s.bus ++ [{ kind := .halt, addr := a, data := v, lock := s.eu.lockActive, final := true }]
        draws := s.draws + 2 }) ∧
      (s.pins.test = true → Completes .wait s fun t => t = s) ∧
        (s.pins.test = false → Completes .wait s fun t => t = { s with
          eu := { s.eu with waiting := true, waitIp := s.ip - 1 } }) ∧
          ∀ f ∈ instrEsc, ∀ x,
            (∀ r, Completes (f x (.reg r)) s fun t => t = s) ∧
              ∀ a, (s.cfg.escMemRead = false → Completes (f x (.mem a)) s fun t => t = s) ∧
                (s.cfg.escMemRead = true → Completes (f x (.mem a)) s fun t =>
                  SameCore s t ∧ WroteNothing s t ∧ t.flags = s.flags ∧ ∃ op, t.bus = s.bus ++ [op] ∧
                    op.kind = .memRead ∧ op.addr = lin (s.eaSeg a) (s.ea a))

/-- A prefix, as an instruction of its own that sets the record of the next and nothing else (the model's choice, log 10, and
so is that LOCK takes effect with its prefix): the last segment override and the last repeat prefix stand, LOCK is set by
any (30_encoding.md R302, 45_processor_control.md R910 to R912). -/
def Obligations.PrefixesSetRecord : Prop :=
  ∀ s : State,
    (∀ (i : Instr) (g : SReg), (i = .prefixES ∧ g = .es) ∨ (i = .prefixCS ∧ g = .cs) ∨ (i = .prefixSS ∧ g = .ss) ∨
        (i = .prefixDS ∧ g = .ds) →
      Completes i s fun t => t = { s with eu := { s.eu with segOverride := some g } }) ∧
      (Completes .rep s fun t => t = { s with eu := { s.eu with repPrefix := some .repe } }) ∧
        (Completes .repne s fun t => t = { s with eu := { s.eu with repPrefix := some .repne } }) ∧
          Completes .lock s fun t => t = { s with eu := { s.eu with lockActive := true } }

/-- A refused encoding, and MUL, IMUL, DIV or IDIV under a repeat prefix, changes nothing but the mark; the step that meets
one performs no part of the instruction, and every later step is a refusal (30_encoding.md R313, 10_state.md R123; that the
step that meets it still answers a next state, with the mark, is the model's reading, log 9; a step inside a prefix run,
which does not end, is log 11). Nothing else stops the core: every step from a state without the mark answers a next state
(60_exceptions.md R1085). -/
def Obligations.RefusalSetsMark : Prop :=
  (∀ op b s, Completes (.refused op b) s fun t => t = { s with refused := true }) ∧
    (∀ (s : State) (m : RM Reg8) (n : RM Reg16) (i : Instr), s.eu.repPrefix.isSome = true →
      i ∈ [.mulEb m, .imulEb m, .divEb m, .idivEb m, .mulEw n, .imulEw n, .divEw n, .idivEw n] →
        s.runDecoded i = .next { s with refused := true }) ∧
      (∀ s t : State, s.refused = false → finish s (.next t) = if t.refused then .next { s with refused := true }
        else if t.eu.decoding then .next t else .next t.endStep) ∧
        (∀ s : State, s.refused = true → step s = .refused .unsupportedOpcode) ∧
          ∀ s : State, s.refused = false → ∃ t, step s = .next t

/-! ### The step -/

/-- The state after reset has the values 10_state.md R124 gives. -/
def Obligations.ResetValues : Prop :=
  let s := State.reset
  s.sregs.cs = 0xFFFF ∧ s.ip = 0x0000 ∧ s.sregs.ds = 0 ∧ s.sregs.es = 0 ∧ s.sregs.ss = 0 ∧ s.flags.toWord = 0xF002 ∧
    s.biu.queue = [] ∧ s.biu.preload = none ∧ s.biu.pc = 0 ∧ s.biu.fetch = .normal ∧ s.biu.status = .passive ∧
      s.biu.tState = .ti ∧ s.biu.ta = .td ∧ s.biu.pending = .none ∧ s.biu.transferN = 1 ∧
        s.biu.finalTransfer = true ∧ s.biu.waitRemaining = 0 ∧ s.biu.lockSignal = false ∧ s.eu.halted = false ∧
          s.eu.nmiLatch = false ∧ s.eu.inhibitAll = false ∧ s.eu.inhibitIntr = false ∧ s.eu.trapArmed = false ∧
            s.eu.lockActive = false ∧ s.eu.waiting = false ∧ s.eu.rep = none

/-- The state after reset meets the invariant. -/
def Obligations.ResetMeetsInvariant : Prop := State.reset.Inv ∧ State.reset.biu.Inv

/-- RESET asserted: whatever the core was doing, it comes to the reset values, with no bus transaction; memory is not
touched (70_reset_and_hazards.md R1100). The general registers get some value each. The model's choices in it: the parts of
the BIU and the EU that R124 does not name (log 27), and that an edge of NMI in the same step is lost (log 26). -/
def Obligations.ResetAction : Prop :=
  ∀ s : State, s.refused = false → s.nextInput.reset = true →
    ∃ t, step s = .next t ∧ t.sregs = State.reset.sregs ∧ t.ip = 0 ∧ t.flags = State.reset.flags ∧
      t.biu = State.reset.biu ∧ t.mem = s.mem ∧ t.bus = [] ∧ ∃ x, t.eu = { State.reset.eu with mcPc := x }

/-- Every step keeps the invariant: memory stays in canonical form, the queue within its size, PC minus the bytes held is
IP, a repetition in progress has iterations left, and no instruction record outlives its step but one whose prefixes go on
(20_memory.md R229, R247, 10_state.md R116, R117, 43_string.md R701, 70_reset_and_hazards.md R1115). -/
def Obligations.StepKeepsInvariant : Prop := ∀ s t : State, s.Inv → step s = .next t → t.Inv

/-- A step samples its inputs, and takes the interrupts due at the boundary, whatever the core is in, ending a halt, a wait
and a repetition, or goes on (30_encoding.md R315, 60_exceptions.md R1051; which are due and what their entries do is in
`BoundaryPriority` and `BoundaryEntries`). It runs the decoded instruction: when no interrupt is taken, nothing is in progress, and the bytes at CS:IP decode
to an instruction that is no prefix, the step is its meaning, run with its bytes consumed and the BIU fetching ahead, and
then the end of the step (30_encoding.md R315, R316). The model's choices in it: how far the BIU fetches ahead is an input
(log 12), and a prefix is an instruction of its own (log 10). -/
def Obligations.StepRunsDecoded : Prop :=
  (∀ s : State, let b := s.beginStep
    b.regs = s.regs ∧ b.sregs = s.sregs ∧ b.ip = s.ip ∧ b.flags = s.flags ∧ b.mem = s.mem ∧ b.plat = s.plat ∧
      b.cfg = s.cfg ∧ b.pins = s.nextInput ∧ b.inputs = s.inputs.tail ∧ b.bus = [] ∧
      ∃ x, b.eu = { s.eu with nmiLatch := s.eu.nmiLatch || s.nextInput.nmi, mcPc := x }) ∧
  (∀ s c : State, s.refused = false → s.nextInput.reset = false → s.eu.decoding = false →
    s.beginStep.boundaryCheck = (true, c) →
      let t := c.endStep
      step s = .next t ∧ t.regs = c.regs ∧ t.sregs = c.sregs ∧ t.ip = c.ip ∧ t.flags = c.flags ∧ t.mem = c.mem ∧
        t.bus = c.bus ∧ t.Flushed ∧ t.eu = { c.eu with lockActive := false, segOverride := none, repPrefix := none } ∧
        t.eu.halted = false ∧ t.eu.waiting = false ∧ t.eu.rep = none) ∧
  ∀ (s c : State) (i : Instr) (rest : List Byte), s.refused = false → s.nextInput.reset = false →
    s.eu.decoding = false → s.beginStep.boundaryCheck = (false, c) → c.eu.halted = false → c.eu.waiting = false → c.eu.rep = none →
      decode c.beginInstruction.window = .ok (i, rest) → i.isPrefix = false →
        let u := c.beginInstruction.consume (c.beginInstruction.window.length - rest.length)
        step s = finish c (exec i (u.prefetch u.pins.prefetch)) ∧
          u.ip = s.ip + BitVec.ofNat 16 (c.beginInstruction.window.length - rest.length) ∧ u.regs = s.regs ∧
            u.sregs = s.sregs ∧ u.flags = s.flags ∧ u.mem = s.mem

/-- A prefix at CS:IP is run as an instruction of its own (the model's choice, log 10), and the same step goes on at the byte
after it (30_encoding.md R302, R316). Where a step has read `prefixLimit` prefixes, the run goes on in the next, with no
boundary between them and so no interrupt (70_reset_and_hazards.md R1115; how many prefixes a step reads is the model's
choice, log 11). -/
def Obligations.PrefixGoesOn : Prop :=
  (∀ (n : Nat) (s u : State) (i : Instr) (rest : List Byte), decode s.window = .ok (i, rest) → i.isPrefix = true →
    exec i (s.consume 1) = .next u → State.runFrom (n + 1) s = State.runFrom n u ∧ u.ip = s.ip + 1 ∧
      u.regs = s.regs ∧ u.flags = s.flags ∧ u.mem = s.mem) ∧
    (∀ s : State, State.runFrom 0 s = .next { s with eu := { s.eu with decoding := true } }) ∧
      ∀ s : State, s.refused = false → s.nextInput.reset = false → s.eu.decoding = true →
        let u := s.beginStep
        step s = finish u (State.runFrom prefixLimit { u with eu := { u.eu with decoding := false } })

/-- With nothing pending and no code fetch in flight, a step runs the instruction whose bytes come next: first those the BIU
holds, the preload slot and then the queue, whatever memory holds where they came from, then those in memory at the BIU's
fetch pointer; with nothing held these are the bytes at CS:IP. IP is past them when the instruction runs (10_state.md R106,
20_memory.md R214, R231, R247, 30_encoding.md R315). -/
def Obligations.StepRunsBytesInMemory : Prop :=
  ∀ (s : State) (i : Instr), s.Inv → s.refused = false → s.nextInput = StepInput.idle → s.eu.decoding = false →
    s.biu.codeInFlight = false → s.eu.halted = false → s.eu.waiting = false → s.eu.rep = none →
      s.eu.nmiLatch = false → s.eu.trapArmed = false → i.wf = true → i.isPrefix = false →
        (∀ k < 6, s.IsRam (lin s.sregs.cs (s.biu.pc + BitVec.ofNat 16 k))) →
          (∀ k, (h : k < (encode i).length) →
            s.biu.held[k]?.getD (s.mem.read (lin s.sregs.cs (s.biu.pc + BitVec.ofNat 16 (k - s.biu.held.length)))) =
              (encode i)[k]) →
            (s.biu.held = [] → s.biu.pc = s.ip) ∧
            ∃ u, step s = finish s.beginStep.boundaryCheck.2 (exec i u) ∧ u.refused = false ∧
              u.ip = s.ip + BitVec.ofNat 16 (encode i).length ∧ u.regs = s.regs ∧ u.sregs = s.sregs ∧
                u.flags = s.flags ∧ u.mem = s.mem ∧ u.plat = s.plat ∧ u.cfg = s.cfg ∧ u.bus = [] ∧
                u.biu.held = s.biu.held.drop (encode i).length ∧
                u.biu.pc = s.biu.pc + BitVec.ofNat 16 ((encode i).length - s.biu.held.length) ∧
                ∃ x, u.eu = { s.eu with
                  trapArmed := s.flags.tf, lockActive := false, segOverride := none, repPrefix := none,
                  inhibitAll := false, inhibitIntr := false, mcPc := x }

/-- Each segment register changes only by the instructions 10_state.md R105 names, CS by far transfers and interrupt
entries alone (those of DIV, IDIV and AAM among them); and no instruction changes TF, IF or DF but those 10_state.md R110
names: POPF and IRET, an interrupt entry for TF and IF, CLI and STI for IF, CLD and STD for DF. -/
def Obligations.WritersOfControlState : Prop :=
  ∀ (i : Instr) (s t : State), exec i s = .next t →
    let entry := (∃ b, i = .intIb b ∨ i = .aamIb b) ∨ (∃ m, i = .divEb m ∨ i = .idivEb m) ∨
      (∃ m, i = .divEw m ∨ i = .idivEw m) ∨ i ∈ [.int3, .into]
    (t.sregs.cs ≠ s.sregs.cs → entry ∨ (∃ a b, i = .jmpAp a b ∨ i = .callAp a b) ∨
        (∃ a, i = .jmpMp a ∨ i = .callMp a) ∨ (∃ w, i = .retfIw w) ∨ i ∈ [.retf, .iret]) ∧
      (t.sregs.ds ≠ s.sregs.ds → (∃ m, i = .movDSEw m) ∨ (∃ g a, i = .ldsGwMp g a) ∨ i = .popDS) ∧
      (t.sregs.es ≠ s.sregs.es → (∃ m, i = .movESEw m) ∨ (∃ g a, i = .lesGwMp g a) ∨ i = .popES) ∧
      (t.sregs.ss ≠ s.sregs.ss → (∃ m, i = .movSSEw m) ∨ i = .popSS) ∧
      (t.flags.tf ≠ s.flags.tf → i ∈ [.popf, .iret] ∨ entry) ∧
      (t.flags.ifl ≠ s.flags.ifl → i ∈ [.popf, .iret, .cli, .sti] ∨ entry) ∧
      (t.flags.df ≠ s.flags.df → i ∈ [.popf, .iret, .cld, .std])

/-! ### The bus -/

/-- Every tick keeps the BIU's invariant, whatever the EU asks for and the fabric answers, and so does every tick in which the
EU's actions are those of the instruction it runs: the queue and the code bytes on their way never exceed QUEUE_SIZE, a
committed transaction has its T1 next, an address cycle has an owner, and only a code fetch on the bus is discarded
(20_memory.md R229, R230, R233, R237, R241). -/
def Obligations.TickKeepsBusInvariant : Prop :=
  (∀ (s : State) (acts : List EuAction) (a : FabricAnswer), s.biu.Inv → (s.busTick acts a).1.biu.Inv) ∧
    ∀ (c : CycleCore) (pins : StepInput) (g : EuTiming) (a : FabricAnswer), c.core.biu.Inv →
      (c.tick pins g a).1.core.biu.Inv

/-- While the EU takes no byte and does not flush, PC minus the bytes held, one in flight counted, does not change from
tick to tick (20_memory.md R247, R248). -/
def Obligations.TickKeepsInstructionPointer : Prop :=
  ∀ (s : State) (acts : List EuAction) (a : FabricAnswer), s.biu.Inv → s.biu.queueWait ∈ [none, some .fetchNext] →
    (∀ x ∈ acts, x ≠ .popFirst ∧ x ≠ .popAfterPrefix ∧ x ≠ .popNext ∧ ∀ ip, x ≠ .flush ip) →
      (s.busTick acts a).1.biu.derivedIp = s.biu.derivedIp

/-- A tick's record: ALE and the command signals of every status in every T-state (20_memory.md R225, R226); LOCK, which is
1 while the EU holds the lock and during INTA, and which the BIU drives (R243, R245); and the queue operation: Flush, with an
empty queue; First for the first byte of an instruction and for a prefix, Subsequent for any other byte, the EU waiting for
it while the queue is empty; else Idle, as when the byte comes from the preload slot (R230, R231, R252). That the opcode byte
after a prefix is Subsequent, and a second prefix First, is the model's reading of R252 with D10 (log 20). -/
def Obligations.CommandSignals : Prop :=
  (∀ (s : State) (acts : List EuAction) (a : FabricAnswer),
    let r := (s.busTick acts a).2
    let x := r.signals
    let mid := r.tState = .t2 ∨ r.tState = .t3 ∨ r.tState = .tw
    let late := r.tState = .t3 ∨ r.tState = .tw
    r.tState = s.biu.tState ∧ (x.ale = true ↔ r.tState = .t1) ∧
      (x.mrdc = true ↔ (r.status = .codeFetch ∨ r.status = .memRead) ∧ mid) ∧
        (x.iorc = true ↔ r.status = .ioRead ∧ mid) ∧ (x.amwc = true ↔ r.status = .memWrite ∧ mid) ∧
          (x.mwtc = true ↔ r.status = .memWrite ∧ late) ∧ (x.aiowc = true ↔ r.status = .ioWrite ∧ mid) ∧
            (x.iowc = true ↔ r.status = .ioWrite ∧ late) ∧ (x.inta = true ↔ r.status = .intAck ∧ mid) ∧
              (r.lock = true ↔ s.biu.lockHeld = true ∨ r.status = .intAck) ∧
                (s.busTick acts a).1.biu.lockSignal = r.lock) ∧
    ∀ (s : State) (a : FabricAnswer), s.biu.Inv → s.biu.queueWait = none →
      let rec' : List EuAction → CycleRecord := fun acts => (s.busTick acts a).2
      (rec' []).queueOp = .idle ∧
        (s.biu.euBusy = false →
          (∀ ip, (rec' [.flush ip]).queueOp = .flush ∧ (rec' [.flush ip]).queueLen = 0) ∧
            (s.biu.preload = none → s.biu.queue ≠ [] →
              (rec' [.popFirst]).queueOp = .first ∧ (rec' [.fetchNext]).queueOp = .first) ∧
            (∀ v rest, s.biu.queue = v :: rest →
              (rec' [.popAfterPrefix]).queueOp = if isPrefixByte v then .first else .subsequent) ∧
            (s.biu.queue ≠ [] → (rec' [.popNext]).queueOp = .subsequent) ∧
            (s.biu.preload ≠ none → (rec' [.popFirst]).queueOp = .idle) ∧
            (s.biu.queue = [] → (rec' [.popNext]).queueOp = .idle ∧
              (s.busTick [.popNext] a).1.biu.queueWait = some .next))

/-- The timing of transfers. The two byte transactions of a word are contiguous, with any number of wait states: after the
first's T4 comes the second's T1. An EU request starts its address cycle in the next tick when none is in progress; a late
one, of any kind and width, in T3, Tw, T4 or Ti, aborts a code-fetch address cycle in Tr, Ts or T0: two ticks of Ta, then its
own Tr, PC not moving for the code fetch. A memory transaction has as many Tw as the fabric's answer says, any other none,
and the fabric is called in T3 with the ticks since its last call (20_memory.md R205, R221, R224, R237 to R242). The fetch
decision in Ti and in T2 starts a code fetch at lin(CS, PC) when there is room, pauses when there is none, delays at the
policy length, and does nothing while fetching is suspended, halted, paused or delayed (R233 to R236). Model's choices in
it: that PC does not move for a code fetch flushed in its T1 tick, that PausedFull ends with a data transaction, and the
transfer fields of an interrupt acknowledge (log 20); that an acknowledge's T3 restarts `elapsed` (log 21). -/
def Obligations.BusTimings : Prop :=
  (∀ (s : State) (r : Request) (x : Byte) (n : Nat) (a0 a1 a2 a3 : FabricAnswer), s.biu.Inv → s.biu.tState = .t2 →
    s.biu.finalTransfer = false → s.biu.nextHalf = some r → s.biu.ta = .td → s.biu.euWaiting = none →
      let tw := if s.biu.status.isMemory then n else 0
      let run := s.busRun ([([], a0), ([], ⟨x, n⟩)] ++ List.replicate tw ([], a1) ++ [([], a2), ([], a3)])
      run.2.map (fun x => x.tState) = [.t2, .t3] ++ List.replicate tw .tw ++ [.t4, .t1] ∧
        run.1.biu.status = r.kind ∧ run.1.biu.addr = r.addr ∧ run.1.biu.transferN = r.transferN) ∧
    (∀ (s : State) (k : EuKind) (w : Width) (x y : LinAddr) (v : Word) (a0 a1 a2 a3 : FabricAnswer), s.biu.Inv →
      s.biu.euFree = true →
        let b := (s.busTick [.transfer k w x y v] a0).1.biu
        let run := s.busRun [([.transfer k w x y v], a0), ([], a1), ([], a2), ([], a3)]
        (s.biu.ta = .td → s.biu.finalTransfer = true → b.ta = .tr ∧ b.owner = some (Request.first k w x v)) ∧
          (Request.isCode s.biu.owner = true → s.biu.tState ∈ [.t3, .tw, .t4, .ti] →
            run.2.map (fun r => r.ta) = [s.biu.ta, .ta, .ta, .tr] ∧ run.1.biu.pc = s.biu.pc ∧
              run.1.biu.owner = some (Request.first k w x v))) ∧
    (∀ (s : State) (acts : List EuAction) (d : Byte) (n : Nat), s.biu.Inv →
      let b := (s.busTick acts ⟨d, n⟩).1.biu
      (s.biu.tState = .t3 →
        s.fabricCall = some ⟨s.biu.status, s.biu.addr, s.biu.data, s.biu.elapsed⟩ ∧ b.elapsed = 1 ∧
          (s.biu.status.isMemory = true → b.waitRemaining = n ∧ b.tState = if n = 0 then .t4 else .tw) ∧
          (s.biu.status.isMemory = false → b.tState = .t4)) ∧
        (s.biu.tState ≠ .t3 → s.fabricCall = none ∧ b.elapsed = s.biu.elapsed + 1) ∧
        (s.biu.tState = .tw → b.waitRemaining = s.biu.waitRemaining - 1 ∧
          b.tState = if s.biu.waitRemaining ≤ 1 then .t4 else .tw)) ∧
    ∀ (s : State) (a : FabricAnswer), s.biu.Inv → s.biu.queueWait = none → s.biu.haltPending = none →
      s.biu.ta = .td → s.biu.euWaiting = none → s.biu.pending = .none → s.biu.finalTransfer = true →
        let b := (s.busTick [] a).1.biu
        let len := s.biu.queue.length
        (s.biu.fetch = .normal → s.biu.tState = .ti ∨ (s.biu.tState = .t2 ∧ s.biu.status ≠ .codeFetch) →
          (len < 4 → b.owner = some (Request.code s.sregs.cs s.biu.pc) ∧ b.ta = .tr ∧ b.fetch = .normal) ∧
            (len = 4 → b.owner = none ∧ b.fetch = .pausedFull)) ∧
          (s.biu.fetch = .normal → s.biu.tState = .t2 → s.biu.status = .codeFetch →
            (len < 3 → b.owner = some (Request.code s.sregs.cs s.biu.pc) ∧ b.ta = .tr ∧ b.fetch = .normal) ∧
              (len = 3 → b.owner = none ∧ b.fetch = .delayed 3)) ∧
          (s.biu.fetch = .delayed 0 → s.biu.tState ≠ .t1 → s.biu.status ≠ .codeFetch → len < 4 →
            b.owner = some (Request.code s.sregs.cs s.biu.pc) ∧ b.fetch = .normal) ∧
          (∀ n, s.biu.fetch = .delayed (n + 1) → b.owner = none ∧ b.fetch = .delayed n) ∧
          (s.biu.fetch = .pausedFull → b.owner = none ∧
            b.fetch = if s.biu.tState = .t4 ∧ s.biu.status ≠ .codeFetch then .normal else .pausedFull) ∧
          (s.biu.fetch = .suspended ∨ s.biu.fetch = .halted → b.owner = none ∧ b.fetch = s.biu.fetch) ∧
          (s.biu.euBusy = false →
            (∀ ip, (s.busTick [.flush ip] a).1.biu.pc = ip ∧ (s.busTick [.flush ip] a).1.biu.fetch = .normal) ∧
            (s.biu.fetch ≠ .halted → (s.busTick [.suspend] a).1.biu.fetch = .suspended) ∧
              (s.busTick [.fetchHalt] a).1.biu.fetch = .halted) ∧
          (s.biu.queue ≠ [] → ∀ q, (s.biu.fetch = .pausedFull → (s.biu.readQueue q).biu.fetch = .normal) ∧
            ∀ n, s.biu.fetch = .delayed n →
              (s.biu.readQueue q).biu.fetch = if len ≤ Config.fetchPolicyLen then .normal else .delayed n)
end

