-- ==== Sys2Proof/Laws/State.lean ====
section
/-! SUPPORT. What each update of the state leaves in each of its fields, true by definition: one lemma per field per
update, so that no later proof unfolds an update. -/

namespace Sys2Proof.Laws

open Sys2Proof Sys2Proof.Machine

/-! ### Registers -/

@[simp] theorem regs_get_set_self (r : Regs) (n : Reg16) (v : Word) : (r.set n v).get n = v := by cases n <;> rfl

@[simp] theorem regs_get_set_ne (r : Regs) {n k : Reg16} (v : Word) (h : k ≠ n) : (r.set n v).get k = r.get k := by
  cases n <;> cases k <;> first | rfl | exact absurd rfl h

@[simp] theorem sregs_get_set_self (r : SRegs) (n : SReg) (v : Word) : (r.set n v).get n = v := by cases n <;> rfl

@[simp] theorem sregs_get_set_ne (r : SRegs) {n k : SReg} (v : Word) (h : k ≠ n) : (r.set n v).get k = r.get k := by
  cases n <;> cases k <;> first | rfl | exact absurd rfl h

/-- Writing a byte register leaves every other word register alone (10_state.md R100). -/
theorem regs_get_set8_ne (r : Regs) (n : Reg8) (v : Byte) {k : Reg16} (h : k ≠ Reg8.whole n) :
    (r.set8 n v).get k = r.get k := regs_get_set_ne _ _ h

@[simp] theorem flags_set_cf (f : Flags) (b : Bool) : f.set .cf b = { f with cf := b } := rfl
@[simp] theorem flags_set_pf (f : Flags) (b : Bool) : f.set .pf b = { f with pf := b } := rfl
@[simp] theorem flags_set_af (f : Flags) (b : Bool) : f.set .af b = { f with af := b } := rfl
@[simp] theorem flags_set_zf (f : Flags) (b : Bool) : f.set .zf b = { f with zf := b } := rfl
@[simp] theorem flags_set_sf (f : Flags) (b : Bool) : f.set .sf b = { f with sf := b } := rfl
@[simp] theorem flags_set_ofl (f : Flags) (b : Bool) : f.set .ofl b = { f with ofl := b } := rfl

/-! ### Updates -/

@[simp] theorem setReg16_regs (s : State) (n : Reg16) (v : Word) : (s.setReg16 n v).regs = s.regs.set n v := rfl
@[simp] theorem setReg16_sregs (s : State) (n : Reg16) (v : Word) : (s.setReg16 n v).sregs = s.sregs := rfl
@[simp] theorem setReg16_ip (s : State) (n : Reg16) (v : Word) : (s.setReg16 n v).ip = s.ip := rfl
@[simp] theorem setReg16_flags (s : State) (n : Reg16) (v : Word) : (s.setReg16 n v).flags = s.flags := rfl
@[simp] theorem setReg16_eu (s : State) (n : Reg16) (v : Word) : (s.setReg16 n v).eu = s.eu := rfl
@[simp] theorem setReg16_biu (s : State) (n : Reg16) (v : Word) : (s.setReg16 n v).biu = s.biu := rfl
@[simp] theorem setReg16_mem (s : State) (n : Reg16) (v : Word) : (s.setReg16 n v).mem = s.mem := rfl
@[simp] theorem setReg16_plat (s : State) (n : Reg16) (v : Word) : (s.setReg16 n v).plat = s.plat := rfl
@[simp] theorem setReg16_cfg (s : State) (n : Reg16) (v : Word) : (s.setReg16 n v).cfg = s.cfg := rfl
@[simp] theorem setReg16_inputs (s : State) (n : Reg16) (v : Word) : (s.setReg16 n v).inputs = s.inputs := rfl
@[simp] theorem setReg16_pins (s : State) (n : Reg16) (v : Word) : (s.setReg16 n v).pins = s.pins := rfl
@[simp] theorem setReg16_bus (s : State) (n : Reg16) (v : Word) : (s.setReg16 n v).bus = s.bus := rfl
@[simp] theorem setReg16_draws (s : State) (n : Reg16) (v : Word) : (s.setReg16 n v).draws = s.draws := rfl
@[simp] theorem setReg16_refused (s : State) (n : Reg16) (v : Word) : (s.setReg16 n v).refused = s.refused := rfl

@[simp] theorem setReg8_regs (s : State) (n : Reg8) (v : Byte) : (s.setReg8 n v).regs = s.regs.set8 n v := rfl
@[simp] theorem setReg8_sregs (s : State) (n : Reg8) (v : Byte) : (s.setReg8 n v).sregs = s.sregs := rfl
@[simp] theorem setReg8_ip (s : State) (n : Reg8) (v : Byte) : (s.setReg8 n v).ip = s.ip := rfl
@[simp] theorem setReg8_flags (s : State) (n : Reg8) (v : Byte) : (s.setReg8 n v).flags = s.flags := rfl
@[simp] theorem setReg8_eu (s : State) (n : Reg8) (v : Byte) : (s.setReg8 n v).eu = s.eu := rfl
@[simp] theorem setReg8_biu (s : State) (n : Reg8) (v : Byte) : (s.setReg8 n v).biu = s.biu := rfl
@[simp] theorem setReg8_mem (s : State) (n : Reg8) (v : Byte) : (s.setReg8 n v).mem = s.mem := rfl
@[simp] theorem setReg8_plat (s : State) (n : Reg8) (v : Byte) : (s.setReg8 n v).plat = s.plat := rfl
@[simp] theorem setReg8_cfg (s : State) (n : Reg8) (v : Byte) : (s.setReg8 n v).cfg = s.cfg := rfl
@[simp] theorem setReg8_inputs (s : State) (n : Reg8) (v : Byte) : (s.setReg8 n v).inputs = s.inputs := rfl
@[simp] theorem setReg8_pins (s : State) (n : Reg8) (v : Byte) : (s.setReg8 n v).pins = s.pins := rfl
@[simp] theorem setReg8_bus (s : State) (n : Reg8) (v : Byte) : (s.setReg8 n v).bus = s.bus := rfl
@[simp] theorem setReg8_draws (s : State) (n : Reg8) (v : Byte) : (s.setReg8 n v).draws = s.draws := rfl
@[simp] theorem setReg8_refused (s : State) (n : Reg8) (v : Byte) : (s.setReg8 n v).refused = s.refused := rfl

@[simp] theorem setSReg_regs (s : State) (n : SReg) (v : Word) : (s.setSReg n v).regs = s.regs := rfl
@[simp] theorem setSReg_sregs (s : State) (n : SReg) (v : Word) : (s.setSReg n v).sregs = s.sregs.set n v := rfl
@[simp] theorem setSReg_ip (s : State) (n : SReg) (v : Word) : (s.setSReg n v).ip = s.ip := rfl
@[simp] theorem setSReg_flags (s : State) (n : SReg) (v : Word) : (s.setSReg n v).flags = s.flags := rfl
@[simp] theorem setSReg_eu (s : State) (n : SReg) (v : Word) : (s.setSReg n v).eu = s.eu := rfl
@[simp] theorem setSReg_biu (s : State) (n : SReg) (v : Word) : (s.setSReg n v).biu = s.biu := rfl
@[simp] theorem setSReg_mem (s : State) (n : SReg) (v : Word) : (s.setSReg n v).mem = s.mem := rfl
@[simp] theorem setSReg_plat (s : State) (n : SReg) (v : Word) : (s.setSReg n v).plat = s.plat := rfl
@[simp] theorem setSReg_cfg (s : State) (n : SReg) (v : Word) : (s.setSReg n v).cfg = s.cfg := rfl
@[simp] theorem setSReg_inputs (s : State) (n : SReg) (v : Word) : (s.setSReg n v).inputs = s.inputs := rfl
@[simp] theorem setSReg_pins (s : State) (n : SReg) (v : Word) : (s.setSReg n v).pins = s.pins := rfl
@[simp] theorem setSReg_bus (s : State) (n : SReg) (v : Word) : (s.setSReg n v).bus = s.bus := rfl
@[simp] theorem setSReg_draws (s : State) (n : SReg) (v : Word) : (s.setSReg n v).draws = s.draws := rfl
@[simp] theorem setSReg_refused (s : State) (n : SReg) (v : Word) : (s.setSReg n v).refused = s.refused := rfl

@[simp] theorem setFlags_regs (s : State) (f : Flags) : (s.setFlags f).regs = s.regs := rfl
@[simp] theorem setFlags_sregs (s : State) (f : Flags) : (s.setFlags f).sregs = s.sregs := rfl
@[simp] theorem setFlags_ip (s : State) (f : Flags) : (s.setFlags f).ip = s.ip := rfl
@[simp] theorem setFlags_flags (s : State) (f : Flags) : (s.setFlags f).flags = f := rfl
@[simp] theorem setFlags_eu (s : State) (f : Flags) : (s.setFlags f).eu = s.eu := rfl
@[simp] theorem setFlags_biu (s : State) (f : Flags) : (s.setFlags f).biu = s.biu := rfl
@[simp] theorem setFlags_mem (s : State) (f : Flags) : (s.setFlags f).mem = s.mem := rfl
@[simp] theorem setFlags_plat (s : State) (f : Flags) : (s.setFlags f).plat = s.plat := rfl
@[simp] theorem setFlags_cfg (s : State) (f : Flags) : (s.setFlags f).cfg = s.cfg := rfl
@[simp] theorem setFlags_inputs (s : State) (f : Flags) : (s.setFlags f).inputs = s.inputs := rfl
@[simp] theorem setFlags_pins (s : State) (f : Flags) : (s.setFlags f).pins = s.pins := rfl
@[simp] theorem setFlags_bus (s : State) (f : Flags) : (s.setFlags f).bus = s.bus := rfl
@[simp] theorem setFlags_draws (s : State) (f : Flags) : (s.setFlags f).draws = s.draws := rfl
@[simp] theorem setFlags_refused (s : State) (f : Flags) : (s.setFlags f).refused = s.refused := rfl

@[simp] theorem drawFlag_regs (s : State) (n : Flag) : (s.drawFlag n).regs = s.regs := rfl
@[simp] theorem drawFlag_sregs (s : State) (n : Flag) : (s.drawFlag n).sregs = s.sregs := rfl
@[simp] theorem drawFlag_ip (s : State) (n : Flag) : (s.drawFlag n).ip = s.ip := rfl
@[simp] theorem drawFlag_flags (s : State) (n : Flag) :
    (s.drawFlag n).flags = s.flags.set n (Config.freeBit s.draws) := rfl
@[simp] theorem drawFlag_eu (s : State) (n : Flag) : (s.drawFlag n).eu = s.eu := rfl
@[simp] theorem drawFlag_biu (s : State) (n : Flag) : (s.drawFlag n).biu = s.biu := rfl
@[simp] theorem drawFlag_mem (s : State) (n : Flag) : (s.drawFlag n).mem = s.mem := rfl
@[simp] theorem drawFlag_plat (s : State) (n : Flag) : (s.drawFlag n).plat = s.plat := rfl
@[simp] theorem drawFlag_cfg (s : State) (n : Flag) : (s.drawFlag n).cfg = s.cfg := rfl
@[simp] theorem drawFlag_inputs (s : State) (n : Flag) : (s.drawFlag n).inputs = s.inputs := rfl
@[simp] theorem drawFlag_pins (s : State) (n : Flag) : (s.drawFlag n).pins = s.pins := rfl
@[simp] theorem drawFlag_bus (s : State) (n : Flag) : (s.drawFlag n).bus = s.bus := rfl
@[simp] theorem drawFlag_draws (s : State) (n : Flag) : (s.drawFlag n).draws = s.draws + 1 := rfl
@[simp] theorem drawFlag_refused (s : State) (n : Flag) : (s.drawFlag n).refused = s.refused := rfl

@[simp] theorem drawReg16_regs (s : State) (n : Reg16) :
    (s.drawReg16 n).regs = s.regs.set n (Config.freeWord s.draws) := rfl
@[simp] theorem drawReg16_sregs (s : State) (n : Reg16) : (s.drawReg16 n).sregs = s.sregs := rfl
@[simp] theorem drawReg16_ip (s : State) (n : Reg16) : (s.drawReg16 n).ip = s.ip := rfl
@[simp] theorem drawReg16_flags (s : State) (n : Reg16) : (s.drawReg16 n).flags = s.flags := rfl
@[simp] theorem drawReg16_eu (s : State) (n : Reg16) : (s.drawReg16 n).eu = s.eu := rfl
@[simp] theorem drawReg16_biu (s : State) (n : Reg16) : (s.drawReg16 n).biu = s.biu := rfl
@[simp] theorem drawReg16_mem (s : State) (n : Reg16) : (s.drawReg16 n).mem = s.mem := rfl
@[simp] theorem drawReg16_plat (s : State) (n : Reg16) : (s.drawReg16 n).plat = s.plat := rfl
@[simp] theorem drawReg16_cfg (s : State) (n : Reg16) : (s.drawReg16 n).cfg = s.cfg := rfl
@[simp] theorem drawReg16_inputs (s : State) (n : Reg16) : (s.drawReg16 n).inputs = s.inputs := rfl
@[simp] theorem drawReg16_pins (s : State) (n : Reg16) : (s.drawReg16 n).pins = s.pins := rfl
@[simp] theorem drawReg16_bus (s : State) (n : Reg16) : (s.drawReg16 n).bus = s.bus := rfl
@[simp] theorem drawReg16_draws (s : State) (n : Reg16) : (s.drawReg16 n).draws = s.draws + 1 := rfl
@[simp] theorem drawReg16_refused (s : State) (n : Reg16) : (s.drawReg16 n).refused = s.refused := rfl

@[simp] theorem drawBit_regs (s : State) : (s.drawBit.2).regs = s.regs := rfl
@[simp] theorem drawBit_sregs (s : State) : (s.drawBit.2).sregs = s.sregs := rfl
@[simp] theorem drawBit_ip (s : State) : (s.drawBit.2).ip = s.ip := rfl
@[simp] theorem drawBit_flags (s : State) : (s.drawBit.2).flags = s.flags := rfl
@[simp] theorem drawBit_eu (s : State) : (s.drawBit.2).eu = s.eu := rfl
@[simp] theorem drawBit_biu (s : State) : (s.drawBit.2).biu = s.biu := rfl
@[simp] theorem drawBit_mem (s : State) : (s.drawBit.2).mem = s.mem := rfl
@[simp] theorem drawBit_plat (s : State) : (s.drawBit.2).plat = s.plat := rfl
@[simp] theorem drawBit_cfg (s : State) : (s.drawBit.2).cfg = s.cfg := rfl
@[simp] theorem drawBit_inputs (s : State) : (s.drawBit.2).inputs = s.inputs := rfl
@[simp] theorem drawBit_pins (s : State) : (s.drawBit.2).pins = s.pins := rfl
@[simp] theorem drawBit_bus (s : State) : (s.drawBit.2).bus = s.bus := rfl
@[simp] theorem drawBit_draws (s : State) : (s.drawBit.2).draws = s.draws + 1 := rfl
@[simp] theorem drawBit_refused (s : State) : (s.drawBit.2).refused = s.refused := rfl

@[simp] theorem record_regs (s : State) (k : BusStatus) (a : LinAddr) (v : Byte) (f : Bool) :
    (s.record k a v f).regs = s.regs := rfl
@[simp] theorem record_sregs (s : State) (k : BusStatus) (a : LinAddr) (v : Byte) (f : Bool) :
    (s.record k a v f).sregs = s.sregs := rfl
@[simp] theorem record_ip (s : State) (k : BusStatus) (a : LinAddr) (v : Byte) (f : Bool) :
    (s.record k a v f).ip = s.ip := rfl
@[simp] theorem record_flags (s : State) (k : BusStatus) (a : LinAddr) (v : Byte) (f : Bool) :
    (s.record k a v f).flags = s.flags := rfl
@[simp] theorem record_eu (s : State) (k : BusStatus) (a : LinAddr) (v : Byte) (f : Bool) :
    (s.record k a v f).eu = s.eu := rfl
@[simp] theorem record_biu (s : State) (k : BusStatus) (a : LinAddr) (v : Byte) (f : Bool) :
    (s.record k a v f).biu = s.biu := rfl
@[simp] theorem record_mem (s : State) (k : BusStatus) (a : LinAddr) (v : Byte) (f : Bool) :
    (s.record k a v f).mem = s.mem := rfl
@[simp] theorem record_plat (s : State) (k : BusStatus) (a : LinAddr) (v : Byte) (f : Bool) :
    (s.record k a v f).plat = s.plat := rfl
@[simp] theorem record_cfg (s : State) (k : BusStatus) (a : LinAddr) (v : Byte) (f : Bool) :
    (s.record k a v f).cfg = s.cfg := rfl
@[simp] theorem record_inputs (s : State) (k : BusStatus) (a : LinAddr) (v : Byte) (f : Bool) :
    (s.record k a v f).inputs = s.inputs := rfl
@[simp] theorem record_pins (s : State) (k : BusStatus) (a : LinAddr) (v : Byte) (f : Bool) :
    (s.record k a v f).pins = s.pins := rfl
@[simp] theorem record_bus (s : State) (k : BusStatus) (a : LinAddr) (v : Byte) (f : Bool) :
    (s.record k a v f).bus = s.bus ++ [{ kind := k, addr := a, data := v, lock := s.eu.lockActive, final := f }] := rfl
@[simp] theorem record_draws (s : State) (k : BusStatus) (a : LinAddr) (v : Byte) (f : Bool) :
    (s.record k a v f).draws = s.draws := rfl
@[simp] theorem record_refused (s : State) (k : BusStatus) (a : LinAddr) (v : Byte) (f : Bool) :
    (s.record k a v f).refused = s.refused := rfl

@[simp] theorem memWrite_regs (s : State) (a : LinAddr) (v : Byte) (f : Bool) :
    (s.memWrite a v f).regs = s.regs := rfl
@[simp] theorem memWrite_sregs (s : State) (a : LinAddr) (v : Byte) (f : Bool) :
    (s.memWrite a v f).sregs = s.sregs := rfl
@[simp] theorem memWrite_ip (s : State) (a : LinAddr) (v : Byte) (f : Bool) : (s.memWrite a v f).ip = s.ip := rfl
@[simp] theorem memWrite_flags (s : State) (a : LinAddr) (v : Byte) (f : Bool) :
    (s.memWrite a v f).flags = s.flags := rfl
@[simp] theorem memWrite_eu (s : State) (a : LinAddr) (v : Byte) (f : Bool) : (s.memWrite a v f).eu = s.eu := rfl
@[simp] theorem memWrite_biu (s : State) (a : LinAddr) (v : Byte) (f : Bool) : (s.memWrite a v f).biu = s.biu := rfl
@[simp] theorem memWrite_mem (s : State) (a : LinAddr) (v : Byte) (f : Bool) :
    (s.memWrite a v f).mem = if s.plat.kindAt a = none then s.mem.write a v else s.mem := rfl
@[simp] theorem memWrite_plat (s : State) (a : LinAddr) (v : Byte) (f : Bool) :
    (s.memWrite a v f).plat = s.plat := rfl
@[simp] theorem memWrite_cfg (s : State) (a : LinAddr) (v : Byte) (f : Bool) : (s.memWrite a v f).cfg = s.cfg := rfl
@[simp] theorem memWrite_inputs (s : State) (a : LinAddr) (v : Byte) (f : Bool) :
    (s.memWrite a v f).inputs = s.inputs := rfl
@[simp] theorem memWrite_pins (s : State) (a : LinAddr) (v : Byte) (f : Bool) :
    (s.memWrite a v f).pins = s.pins := rfl
@[simp] theorem memWrite_bus (s : State) (a : LinAddr) (v : Byte) (f : Bool) :
    (s.memWrite a v f).bus = 
      s.bus ++ [{ kind := .memWrite, addr := a, data := v, lock := s.eu.lockActive, final := f }] := rfl
@[simp] theorem memWrite_draws (s : State) (a : LinAddr) (v : Byte) (f : Bool) :
    (s.memWrite a v f).draws = s.draws := rfl
@[simp] theorem memWrite_refused (s : State) (a : LinAddr) (v : Byte) (f : Bool) :
    (s.memWrite a v f).refused = s.refused := rfl

@[simp] theorem ioWrite_regs (s : State) (p : Word) (v : Byte) (f : Bool) : (s.ioWrite p v f).regs = s.regs := rfl
@[simp] theorem ioWrite_sregs (s : State) (p : Word) (v : Byte) (f : Bool) : (s.ioWrite p v f).sregs = s.sregs := rfl
@[simp] theorem ioWrite_ip (s : State) (p : Word) (v : Byte) (f : Bool) : (s.ioWrite p v f).ip = s.ip := rfl
@[simp] theorem ioWrite_flags (s : State) (p : Word) (v : Byte) (f : Bool) : (s.ioWrite p v f).flags = s.flags := rfl
@[simp] theorem ioWrite_eu (s : State) (p : Word) (v : Byte) (f : Bool) : (s.ioWrite p v f).eu = s.eu := rfl
@[simp] theorem ioWrite_biu (s : State) (p : Word) (v : Byte) (f : Bool) : (s.ioWrite p v f).biu = s.biu := rfl
@[simp] theorem ioWrite_mem (s : State) (p : Word) (v : Byte) (f : Bool) : (s.ioWrite p v f).mem = s.mem := rfl
@[simp] theorem ioWrite_plat (s : State) (p : Word) (v : Byte) (f : Bool) : (s.ioWrite p v f).plat = s.plat := rfl
@[simp] theorem ioWrite_cfg (s : State) (p : Word) (v : Byte) (f : Bool) : (s.ioWrite p v f).cfg = s.cfg := rfl
@[simp] theorem ioWrite_inputs (s : State) (p : Word) (v : Byte) (f : Bool) :
    (s.ioWrite p v f).inputs = s.inputs := rfl
@[simp] theorem ioWrite_pins (s : State) (p : Word) (v : Byte) (f : Bool) : (s.ioWrite p v f).pins = s.pins := rfl
@[simp] theorem ioWrite_bus (s : State) (p : Word) (v : Byte) (f : Bool) :
    (s.ioWrite p v f).bus = 
      s.bus ++ [{ kind := .ioWrite, addr := portAddr p, data := v, lock := s.eu.lockActive, final := f }] := rfl
@[simp] theorem ioWrite_draws (s : State) (p : Word) (v : Byte) (f : Bool) : (s.ioWrite p v f).draws = s.draws := rfl
@[simp] theorem ioWrite_refused (s : State) (p : Word) (v : Byte) (f : Bool) :
    (s.ioWrite p v f).refused = s.refused := rfl

@[simp] theorem releaseLock_regs (s : State) : (s.releaseLock).regs = s.regs := rfl
@[simp] theorem releaseLock_sregs (s : State) : (s.releaseLock).sregs = s.sregs := rfl
@[simp] theorem releaseLock_ip (s : State) : (s.releaseLock).ip = s.ip := rfl
@[simp] theorem releaseLock_flags (s : State) : (s.releaseLock).flags = s.flags := rfl
@[simp] theorem releaseLock_eu (s : State) : (s.releaseLock).eu = { s.eu with lockActive := false } := rfl
@[simp] theorem releaseLock_biu (s : State) : (s.releaseLock).biu = s.biu := rfl
@[simp] theorem releaseLock_mem (s : State) : (s.releaseLock).mem = s.mem := rfl
@[simp] theorem releaseLock_plat (s : State) : (s.releaseLock).plat = s.plat := rfl
@[simp] theorem releaseLock_cfg (s : State) : (s.releaseLock).cfg = s.cfg := rfl
@[simp] theorem releaseLock_inputs (s : State) : (s.releaseLock).inputs = s.inputs := rfl
@[simp] theorem releaseLock_pins (s : State) : (s.releaseLock).pins = s.pins := rfl
@[simp] theorem releaseLock_bus (s : State) : (s.releaseLock).bus = s.bus := rfl
@[simp] theorem releaseLock_draws (s : State) : (s.releaseLock).draws = s.draws := rfl
@[simp] theorem releaseLock_refused (s : State) : (s.releaseLock).refused = s.refused := rfl

@[simp] theorem haltCycle_regs (s : State) : (s.haltCycle).regs = s.regs := rfl
@[simp] theorem haltCycle_sregs (s : State) : (s.haltCycle).sregs = s.sregs := rfl
@[simp] theorem haltCycle_ip (s : State) : (s.haltCycle).ip = s.ip := rfl
@[simp] theorem haltCycle_flags (s : State) : (s.haltCycle).flags = s.flags := rfl
@[simp] theorem haltCycle_eu (s : State) : (s.haltCycle).eu = s.eu := rfl
@[simp] theorem haltCycle_biu (s : State) : (s.haltCycle).biu = s.biu := rfl
@[simp] theorem haltCycle_mem (s : State) : (s.haltCycle).mem = s.mem := rfl
@[simp] theorem haltCycle_plat (s : State) : (s.haltCycle).plat = s.plat := rfl
@[simp] theorem haltCycle_cfg (s : State) : (s.haltCycle).cfg = s.cfg := rfl
@[simp] theorem haltCycle_inputs (s : State) : (s.haltCycle).inputs = s.inputs := rfl
@[simp] theorem haltCycle_pins (s : State) : (s.haltCycle).pins = s.pins := rfl
@[simp] theorem haltCycle_draws (s : State) : (s.haltCycle).draws = s.draws + 2 := rfl
@[simp] theorem haltCycle_refused (s : State) : (s.haltCycle).refused = s.refused := rfl

@[simp] theorem hlt_regs (s : State) : (s.hlt).regs = s.regs := rfl
@[simp] theorem hlt_sregs (s : State) : (s.hlt).sregs = s.sregs := rfl
@[simp] theorem hlt_ip (s : State) : (s.hlt).ip = s.ip := rfl
@[simp] theorem hlt_flags (s : State) : (s.hlt).flags = s.flags := rfl
@[simp] theorem hlt_eu (s : State) : (s.hlt).eu = { s.eu with halted := true } := rfl
@[simp] theorem hlt_biu (s : State) : (s.hlt).biu = { s.biu with fetch := .halted } := rfl
@[simp] theorem hlt_mem (s : State) : (s.hlt).mem = s.mem := rfl
@[simp] theorem hlt_plat (s : State) : (s.hlt).plat = s.plat := rfl
@[simp] theorem hlt_cfg (s : State) : (s.hlt).cfg = s.cfg := rfl
@[simp] theorem hlt_inputs (s : State) : (s.hlt).inputs = s.inputs := rfl
@[simp] theorem hlt_pins (s : State) : (s.hlt).pins = s.pins := rfl
@[simp] theorem hlt_draws (s : State) : (s.hlt).draws = s.draws + 2 := rfl
@[simp] theorem hlt_refused (s : State) : (s.hlt).refused = s.refused := rfl

@[simp] theorem jump_regs (s : State) (ip : Word) : (s.jump ip).regs = s.regs := rfl
@[simp] theorem jump_sregs (s : State) (ip : Word) : (s.jump ip).sregs = s.sregs := rfl
@[simp] theorem jump_ip (s : State) (ip : Word) : (s.jump ip).ip = ip := rfl
@[simp] theorem jump_flags (s : State) (ip : Word) : (s.jump ip).flags = s.flags := rfl
@[simp] theorem jump_eu (s : State) (ip : Word) : (s.jump ip).eu = s.eu := rfl
@[simp] theorem jump_biu (s : State) (ip : Word) : (s.jump ip).biu = s.biu.flush ip := rfl
@[simp] theorem jump_mem (s : State) (ip : Word) : (s.jump ip).mem = s.mem := rfl
@[simp] theorem jump_plat (s : State) (ip : Word) : (s.jump ip).plat = s.plat := rfl
@[simp] theorem jump_cfg (s : State) (ip : Word) : (s.jump ip).cfg = s.cfg := rfl
@[simp] theorem jump_inputs (s : State) (ip : Word) : (s.jump ip).inputs = s.inputs := rfl
@[simp] theorem jump_pins (s : State) (ip : Word) : (s.jump ip).pins = s.pins := rfl
@[simp] theorem jump_bus (s : State) (ip : Word) : (s.jump ip).bus = s.bus := rfl
@[simp] theorem jump_draws (s : State) (ip : Word) : (s.jump ip).draws = s.draws := rfl
@[simp] theorem jump_refused (s : State) (ip : Word) : (s.jump ip).refused = s.refused := rfl

@[simp] theorem jumpFar_regs (s : State) (cs ip : Word) : (s.jumpFar cs ip).regs = s.regs := rfl
@[simp] theorem jumpFar_sregs (s : State) (cs ip : Word) : (s.jumpFar cs ip).sregs = s.sregs.set .cs cs := rfl
@[simp] theorem jumpFar_ip (s : State) (cs ip : Word) : (s.jumpFar cs ip).ip = ip := rfl
@[simp] theorem jumpFar_flags (s : State) (cs ip : Word) : (s.jumpFar cs ip).flags = s.flags := rfl
@[simp] theorem jumpFar_eu (s : State) (cs ip : Word) : (s.jumpFar cs ip).eu = s.eu := rfl
@[simp] theorem jumpFar_biu (s : State) (cs ip : Word) : (s.jumpFar cs ip).biu = s.biu.flush ip := rfl
@[simp] theorem jumpFar_mem (s : State) (cs ip : Word) : (s.jumpFar cs ip).mem = s.mem := rfl
@[simp] theorem jumpFar_plat (s : State) (cs ip : Word) : (s.jumpFar cs ip).plat = s.plat := rfl
@[simp] theorem jumpFar_cfg (s : State) (cs ip : Word) : (s.jumpFar cs ip).cfg = s.cfg := rfl
@[simp] theorem jumpFar_inputs (s : State) (cs ip : Word) : (s.jumpFar cs ip).inputs = s.inputs := rfl
@[simp] theorem jumpFar_pins (s : State) (cs ip : Word) : (s.jumpFar cs ip).pins = s.pins := rfl
@[simp] theorem jumpFar_bus (s : State) (cs ip : Word) : (s.jumpFar cs ip).bus = s.bus := rfl
@[simp] theorem jumpFar_draws (s : State) (cs ip : Word) : (s.jumpFar cs ip).draws = s.draws := rfl
@[simp] theorem jumpFar_refused (s : State) (cs ip : Word) : (s.jumpFar cs ip).refused = s.refused := rfl

@[simp] theorem intAck_regs (s : State) (v : Byte) : (s.intAck v).regs = s.regs := rfl
@[simp] theorem intAck_sregs (s : State) (v : Byte) : (s.intAck v).sregs = s.sregs := rfl
@[simp] theorem intAck_ip (s : State) (v : Byte) : (s.intAck v).ip = s.ip := rfl
@[simp] theorem intAck_flags (s : State) (v : Byte) : (s.intAck v).flags = s.flags := rfl
@[simp] theorem intAck_eu (s : State) (v : Byte) : (s.intAck v).eu = s.eu := rfl
@[simp] theorem intAck_biu (s : State) (v : Byte) : (s.intAck v).biu = s.biu := rfl
@[simp] theorem intAck_mem (s : State) (v : Byte) : (s.intAck v).mem = s.mem := rfl
@[simp] theorem intAck_plat (s : State) (v : Byte) : (s.intAck v).plat = s.plat := rfl
@[simp] theorem intAck_cfg (s : State) (v : Byte) : (s.intAck v).cfg = s.cfg := rfl
@[simp] theorem intAck_inputs (s : State) (v : Byte) : (s.intAck v).inputs = s.inputs := rfl
@[simp] theorem intAck_pins (s : State) (v : Byte) : (s.intAck v).pins = s.pins := rfl
@[simp] theorem intAck_draws (s : State) (v : Byte) : (s.intAck v).draws = s.draws + 3 := rfl
@[simp] theorem intAck_refused (s : State) (v : Byte) : (s.intAck v).refused = s.refused := rfl

@[simp] theorem shadowLoad_regs (s : State) : (s.shadowLoad).regs = s.regs := rfl
@[simp] theorem shadowLoad_sregs (s : State) : (s.shadowLoad).sregs = s.sregs := rfl
@[simp] theorem shadowLoad_ip (s : State) : (s.shadowLoad).ip = s.ip := rfl
@[simp] theorem shadowLoad_flags (s : State) : (s.shadowLoad).flags = s.flags := rfl
@[simp] theorem shadowLoad_eu (s : State) :
    (s.shadowLoad).eu = { s.eu with inhibitAll := s.eu.inhibitAll || s.cfg.sregLoadInhibit } := rfl
@[simp] theorem shadowLoad_biu (s : State) : (s.shadowLoad).biu = s.biu := rfl
@[simp] theorem shadowLoad_mem (s : State) : (s.shadowLoad).mem = s.mem := rfl
@[simp] theorem shadowLoad_plat (s : State) : (s.shadowLoad).plat = s.plat := rfl
@[simp] theorem shadowLoad_cfg (s : State) : (s.shadowLoad).cfg = s.cfg := rfl
@[simp] theorem shadowLoad_inputs (s : State) : (s.shadowLoad).inputs = s.inputs := rfl
@[simp] theorem shadowLoad_pins (s : State) : (s.shadowLoad).pins = s.pins := rfl
@[simp] theorem shadowLoad_bus (s : State) : (s.shadowLoad).bus = s.bus := rfl
@[simp] theorem shadowLoad_draws (s : State) : (s.shadowLoad).draws = s.draws := rfl
@[simp] theorem shadowLoad_refused (s : State) : (s.shadowLoad).refused = s.refused := rfl

@[simp] theorem clearShadows_regs (s : State) : (s.clearShadows).regs = s.regs := rfl
@[simp] theorem clearShadows_sregs (s : State) : (s.clearShadows).sregs = s.sregs := rfl
@[simp] theorem clearShadows_ip (s : State) : (s.clearShadows).ip = s.ip := rfl
@[simp] theorem clearShadows_flags (s : State) : (s.clearShadows).flags = s.flags := rfl
@[simp] theorem clearShadows_biu (s : State) : (s.clearShadows).biu = s.biu := rfl
@[simp] theorem clearShadows_mem (s : State) : (s.clearShadows).mem = s.mem := rfl
@[simp] theorem clearShadows_plat (s : State) : (s.clearShadows).plat = s.plat := rfl
@[simp] theorem clearShadows_cfg (s : State) : (s.clearShadows).cfg = s.cfg := rfl
@[simp] theorem clearShadows_inputs (s : State) : (s.clearShadows).inputs = s.inputs := rfl
@[simp] theorem clearShadows_pins (s : State) : (s.clearShadows).pins = s.pins := rfl
@[simp] theorem clearShadows_bus (s : State) : (s.clearShadows).bus = s.bus := rfl
@[simp] theorem clearShadows_draws (s : State) : (s.clearShadows).draws = s.draws := rfl
@[simp] theorem clearShadows_refused (s : State) : (s.clearShadows).refused = s.refused := rfl

@[simp] theorem beginInstruction_regs (s : State) : (s.beginInstruction).regs = s.regs := rfl
@[simp] theorem beginInstruction_sregs (s : State) : (s.beginInstruction).sregs = s.sregs := rfl
@[simp] theorem beginInstruction_ip (s : State) : (s.beginInstruction).ip = s.ip := rfl
@[simp] theorem beginInstruction_flags (s : State) : (s.beginInstruction).flags = s.flags := rfl
@[simp] theorem beginInstruction_biu (s : State) : (s.beginInstruction).biu = s.biu := rfl
@[simp] theorem beginInstruction_mem (s : State) : (s.beginInstruction).mem = s.mem := rfl
@[simp] theorem beginInstruction_plat (s : State) : (s.beginInstruction).plat = s.plat := rfl
@[simp] theorem beginInstruction_cfg (s : State) : (s.beginInstruction).cfg = s.cfg := rfl
@[simp] theorem beginInstruction_inputs (s : State) : (s.beginInstruction).inputs = s.inputs := rfl
@[simp] theorem beginInstruction_pins (s : State) : (s.beginInstruction).pins = s.pins := rfl
@[simp] theorem beginInstruction_bus (s : State) : (s.beginInstruction).bus = s.bus := rfl
@[simp] theorem beginInstruction_draws (s : State) : (s.beginInstruction).draws = s.draws := rfl
@[simp] theorem beginInstruction_refused (s : State) : (s.beginInstruction).refused = s.refused := rfl

@[simp] theorem markRefused_regs (s : State) : (s.markRefused).regs = s.regs := rfl
@[simp] theorem markRefused_sregs (s : State) : (s.markRefused).sregs = s.sregs := rfl
@[simp] theorem markRefused_ip (s : State) : (s.markRefused).ip = s.ip := rfl
@[simp] theorem markRefused_flags (s : State) : (s.markRefused).flags = s.flags := rfl
@[simp] theorem markRefused_eu (s : State) : (s.markRefused).eu = s.eu := rfl
@[simp] theorem markRefused_biu (s : State) : (s.markRefused).biu = s.biu := rfl
@[simp] theorem markRefused_mem (s : State) : (s.markRefused).mem = s.mem := rfl
@[simp] theorem markRefused_plat (s : State) : (s.markRefused).plat = s.plat := rfl
@[simp] theorem markRefused_cfg (s : State) : (s.markRefused).cfg = s.cfg := rfl
@[simp] theorem markRefused_inputs (s : State) : (s.markRefused).inputs = s.inputs := rfl
@[simp] theorem markRefused_pins (s : State) : (s.markRefused).pins = s.pins := rfl
@[simp] theorem markRefused_bus (s : State) : (s.markRefused).bus = s.bus := rfl
@[simp] theorem markRefused_draws (s : State) : (s.markRefused).draws = s.draws := rfl
@[simp] theorem markRefused_refused (s : State) : (s.markRefused).refused = true := rfl

@[simp] theorem consume_regs (s : State) (n : Nat) : (s.consume n).regs = s.regs := rfl
@[simp] theorem consume_sregs (s : State) (n : Nat) : (s.consume n).sregs = s.sregs := rfl
@[simp] theorem consume_ip (s : State) (n : Nat) : (s.consume n).ip = s.ip + BitVec.ofNat 16 n := rfl
@[simp] theorem consume_flags (s : State) (n : Nat) : (s.consume n).flags = s.flags := rfl
@[simp] theorem consume_eu (s : State) (n : Nat) : (s.consume n).eu = s.eu := rfl
@[simp] theorem consume_mem (s : State) (n : Nat) : (s.consume n).mem = s.mem := rfl
@[simp] theorem consume_plat (s : State) (n : Nat) : (s.consume n).plat = s.plat := rfl
@[simp] theorem consume_cfg (s : State) (n : Nat) : (s.consume n).cfg = s.cfg := rfl
@[simp] theorem consume_inputs (s : State) (n : Nat) : (s.consume n).inputs = s.inputs := rfl
@[simp] theorem consume_pins (s : State) (n : Nat) : (s.consume n).pins = s.pins := rfl
@[simp] theorem consume_bus (s : State) (n : Nat) : (s.consume n).bus = s.bus := rfl
@[simp] theorem consume_draws (s : State) (n : Nat) : (s.consume n).draws = s.draws + maxLength := rfl
@[simp] theorem consume_refused (s : State) (n : Nat) : (s.consume n).refused = s.refused := rfl

@[simp] theorem prefetch_regs (s : State) (n : Nat) : (s.prefetch n).regs = s.regs := rfl
@[simp] theorem prefetch_sregs (s : State) (n : Nat) : (s.prefetch n).sregs = s.sregs := rfl
@[simp] theorem prefetch_ip (s : State) (n : Nat) : (s.prefetch n).ip = s.ip := rfl
@[simp] theorem prefetch_flags (s : State) (n : Nat) : (s.prefetch n).flags = s.flags := rfl
@[simp] theorem prefetch_eu (s : State) (n : Nat) : (s.prefetch n).eu = s.eu := rfl
@[simp] theorem prefetch_mem (s : State) (n : Nat) : (s.prefetch n).mem = s.mem := rfl
@[simp] theorem prefetch_plat (s : State) (n : Nat) : (s.prefetch n).plat = s.plat := rfl
@[simp] theorem prefetch_cfg (s : State) (n : Nat) : (s.prefetch n).cfg = s.cfg := rfl
@[simp] theorem prefetch_inputs (s : State) (n : Nat) : (s.prefetch n).inputs = s.inputs := rfl
@[simp] theorem prefetch_pins (s : State) (n : Nat) : (s.prefetch n).pins = s.pins := rfl
@[simp] theorem prefetch_bus (s : State) (n : Nat) : (s.prefetch n).bus = s.bus := rfl
@[simp] theorem prefetch_draws (s : State) (n : Nat) : (s.prefetch n).draws = s.draws + maxHeld := rfl
@[simp] theorem prefetch_refused (s : State) (n : Nat) : (s.prefetch n).refused = s.refused := rfl

@[simp] theorem refetch_regs (s : State) (l : List Bool) : (s.refetch l).regs = s.regs := rfl
@[simp] theorem refetch_sregs (s : State) (l : List Bool) : (s.refetch l).sregs = s.sregs := rfl
@[simp] theorem refetch_ip (s : State) (l : List Bool) : (s.refetch l).ip = s.ip := rfl
@[simp] theorem refetch_flags (s : State) (l : List Bool) : (s.refetch l).flags = s.flags := rfl
@[simp] theorem refetch_eu (s : State) (l : List Bool) : (s.refetch l).eu = s.eu := rfl
@[simp] theorem refetch_mem (s : State) (l : List Bool) : (s.refetch l).mem = s.mem := rfl
@[simp] theorem refetch_plat (s : State) (l : List Bool) : (s.refetch l).plat = s.plat := rfl
@[simp] theorem refetch_cfg (s : State) (l : List Bool) : (s.refetch l).cfg = s.cfg := rfl
@[simp] theorem refetch_inputs (s : State) (l : List Bool) : (s.refetch l).inputs = s.inputs := rfl
@[simp] theorem refetch_pins (s : State) (l : List Bool) : (s.refetch l).pins = s.pins := rfl
@[simp] theorem refetch_bus (s : State) (l : List Bool) : (s.refetch l).bus = s.bus := rfl
@[simp] theorem refetch_draws (s : State) (l : List Bool) : (s.refetch l).draws = s.draws + maxHeld := rfl
@[simp] theorem refetch_refused (s : State) (l : List Bool) : (s.refetch l).refused = s.refused := rfl

@[simp] theorem settle_regs (s : State) : (s.settle).regs = s.regs := rfl
@[simp] theorem settle_sregs (s : State) : (s.settle).sregs = s.sregs := rfl
@[simp] theorem settle_ip (s : State) : (s.settle).ip = s.ip := rfl
@[simp] theorem settle_flags (s : State) : (s.settle).flags = s.flags := rfl
@[simp] theorem settle_eu (s : State) : (s.settle).eu = s.eu := rfl
@[simp] theorem settle_mem (s : State) : (s.settle).mem = s.mem := rfl
@[simp] theorem settle_plat (s : State) : (s.settle).plat = s.plat := rfl
@[simp] theorem settle_cfg (s : State) : (s.settle).cfg = s.cfg := rfl
@[simp] theorem settle_inputs (s : State) : (s.settle).inputs = s.inputs := rfl
@[simp] theorem settle_pins (s : State) : (s.settle).pins = s.pins := rfl
@[simp] theorem settle_bus (s : State) : (s.settle).bus = s.bus := rfl
@[simp] theorem settle_draws (s : State) : (s.settle).draws = s.draws + 1 := rfl
@[simp] theorem settle_refused (s : State) : (s.settle).refused = s.refused := rfl

@[simp] theorem endStep_regs (s : State) : (s.endStep).regs = s.regs := rfl
@[simp] theorem endStep_sregs (s : State) : (s.endStep).sregs = s.sregs := rfl
@[simp] theorem endStep_ip (s : State) : (s.endStep).ip = s.ip := rfl
@[simp] theorem endStep_flags (s : State) : (s.endStep).flags = s.flags := rfl
@[simp] theorem endStep_eu (s : State) : (s.endStep).eu = s.eu.ended := rfl
@[simp] theorem endStep_mem (s : State) : (s.endStep).mem = s.mem := rfl
@[simp] theorem endStep_plat (s : State) : (s.endStep).plat = s.plat := rfl
@[simp] theorem endStep_cfg (s : State) : (s.endStep).cfg = s.cfg := rfl
@[simp] theorem endStep_inputs (s : State) : (s.endStep).inputs = s.inputs := rfl
@[simp] theorem endStep_pins (s : State) : (s.endStep).pins = s.pins := rfl
@[simp] theorem endStep_bus (s : State) : (s.endStep).bus = s.bus := rfl
@[simp] theorem endStep_draws (s : State) : (s.endStep).draws = s.draws + maxHeld := rfl
@[simp] theorem endStep_refused (s : State) : (s.endStep).refused = s.refused := rfl

@[simp] theorem setSegOverride_regs (s : State) (r : SReg) : (s.setSegOverride r).regs = s.regs := rfl
@[simp] theorem setSegOverride_sregs (s : State) (r : SReg) : (s.setSegOverride r).sregs = s.sregs := rfl
@[simp] theorem setSegOverride_ip (s : State) (r : SReg) : (s.setSegOverride r).ip = s.ip := rfl
@[simp] theorem setSegOverride_flags (s : State) (r : SReg) : (s.setSegOverride r).flags = s.flags := rfl
@[simp] theorem setSegOverride_eu (s : State) (r : SReg) :
    (s.setSegOverride r).eu = { s.eu with segOverride := some r } := rfl
@[simp] theorem setSegOverride_biu (s : State) (r : SReg) : (s.setSegOverride r).biu = s.biu := rfl
@[simp] theorem setSegOverride_mem (s : State) (r : SReg) : (s.setSegOverride r).mem = s.mem := rfl
@[simp] theorem setSegOverride_plat (s : State) (r : SReg) : (s.setSegOverride r).plat = s.plat := rfl
@[simp] theorem setSegOverride_cfg (s : State) (r : SReg) : (s.setSegOverride r).cfg = s.cfg := rfl
@[simp] theorem setSegOverride_inputs (s : State) (r : SReg) : (s.setSegOverride r).inputs = s.inputs := rfl
@[simp] theorem setSegOverride_pins (s : State) (r : SReg) : (s.setSegOverride r).pins = s.pins := rfl
@[simp] theorem setSegOverride_bus (s : State) (r : SReg) : (s.setSegOverride r).bus = s.bus := rfl
@[simp] theorem setSegOverride_draws (s : State) (r : SReg) : (s.setSegOverride r).draws = s.draws := rfl
@[simp] theorem setSegOverride_refused (s : State) (r : SReg) : (s.setSegOverride r).refused = s.refused := rfl

@[simp] theorem setRepPrefix_regs (s : State) (c : RepCond) : (s.setRepPrefix c).regs = s.regs := rfl
@[simp] theorem setRepPrefix_sregs (s : State) (c : RepCond) : (s.setRepPrefix c).sregs = s.sregs := rfl
@[simp] theorem setRepPrefix_ip (s : State) (c : RepCond) : (s.setRepPrefix c).ip = s.ip := rfl
@[simp] theorem setRepPrefix_flags (s : State) (c : RepCond) : (s.setRepPrefix c).flags = s.flags := rfl
@[simp] theorem setRepPrefix_eu (s : State) (c : RepCond) :
    (s.setRepPrefix c).eu = { s.eu with repPrefix := some c } := rfl
@[simp] theorem setRepPrefix_biu (s : State) (c : RepCond) : (s.setRepPrefix c).biu = s.biu := rfl
@[simp] theorem setRepPrefix_mem (s : State) (c : RepCond) : (s.setRepPrefix c).mem = s.mem := rfl
@[simp] theorem setRepPrefix_plat (s : State) (c : RepCond) : (s.setRepPrefix c).plat = s.plat := rfl
@[simp] theorem setRepPrefix_cfg (s : State) (c : RepCond) : (s.setRepPrefix c).cfg = s.cfg := rfl
@[simp] theorem setRepPrefix_inputs (s : State) (c : RepCond) : (s.setRepPrefix c).inputs = s.inputs := rfl
@[simp] theorem setRepPrefix_pins (s : State) (c : RepCond) : (s.setRepPrefix c).pins = s.pins := rfl
@[simp] theorem setRepPrefix_bus (s : State) (c : RepCond) : (s.setRepPrefix c).bus = s.bus := rfl
@[simp] theorem setRepPrefix_draws (s : State) (c : RepCond) : (s.setRepPrefix c).draws = s.draws := rfl
@[simp] theorem setRepPrefix_refused (s : State) (c : RepCond) : (s.setRepPrefix c).refused = s.refused := rfl

@[simp] theorem setLock_regs (s : State) : (s.setLock).regs = s.regs := rfl
@[simp] theorem setLock_sregs (s : State) : (s.setLock).sregs = s.sregs := rfl
@[simp] theorem setLock_ip (s : State) : (s.setLock).ip = s.ip := rfl
@[simp] theorem setLock_flags (s : State) : (s.setLock).flags = s.flags := rfl
@[simp] theorem setLock_eu (s : State) : (s.setLock).eu = { s.eu with lockActive := true } := rfl
@[simp] theorem setLock_biu (s : State) : (s.setLock).biu = s.biu := rfl
@[simp] theorem setLock_mem (s : State) : (s.setLock).mem = s.mem := rfl
@[simp] theorem setLock_plat (s : State) : (s.setLock).plat = s.plat := rfl
@[simp] theorem setLock_cfg (s : State) : (s.setLock).cfg = s.cfg := rfl
@[simp] theorem setLock_inputs (s : State) : (s.setLock).inputs = s.inputs := rfl
@[simp] theorem setLock_pins (s : State) : (s.setLock).pins = s.pins := rfl
@[simp] theorem setLock_bus (s : State) : (s.setLock).bus = s.bus := rfl
@[simp] theorem setLock_draws (s : State) : (s.setLock).draws = s.draws := rfl
@[simp] theorem setLock_refused (s : State) : (s.setLock).refused = s.refused := rfl

@[simp] theorem writeB_regs (s : State) (seg off : Word) (v : Byte) : (s.writeB seg off v).regs = s.regs := rfl
@[simp] theorem writeB_sregs (s : State) (seg off : Word) (v : Byte) : (s.writeB seg off v).sregs = s.sregs := rfl
@[simp] theorem writeB_ip (s : State) (seg off : Word) (v : Byte) : (s.writeB seg off v).ip = s.ip := rfl
@[simp] theorem writeB_flags (s : State) (seg off : Word) (v : Byte) : (s.writeB seg off v).flags = s.flags := rfl
@[simp] theorem writeB_eu (s : State) (seg off : Word) (v : Byte) : (s.writeB seg off v).eu = s.eu := rfl
@[simp] theorem writeB_biu (s : State) (seg off : Word) (v : Byte) : (s.writeB seg off v).biu = s.biu := rfl
@[simp] theorem writeB_plat (s : State) (seg off : Word) (v : Byte) : (s.writeB seg off v).plat = s.plat := rfl
@[simp] theorem writeB_cfg (s : State) (seg off : Word) (v : Byte) : (s.writeB seg off v).cfg = s.cfg := rfl
@[simp] theorem writeB_inputs (s : State) (seg off : Word) (v : Byte) : (s.writeB seg off v).inputs = s.inputs := rfl
@[simp] theorem writeB_pins (s : State) (seg off : Word) (v : Byte) : (s.writeB seg off v).pins = s.pins := rfl
@[simp] theorem writeB_draws (s : State) (seg off : Word) (v : Byte) : (s.writeB seg off v).draws = s.draws := rfl
@[simp] theorem writeB_refused (s : State) (seg off : Word) (v : Byte) : (s.writeB seg off v).refused = s.refused := rfl

@[simp] theorem writeW_regs (s : State) (seg off v : Word) : (s.writeW seg off v).regs = s.regs := rfl
@[simp] theorem writeW_sregs (s : State) (seg off v : Word) : (s.writeW seg off v).sregs = s.sregs := rfl
@[simp] theorem writeW_ip (s : State) (seg off v : Word) : (s.writeW seg off v).ip = s.ip := rfl
@[simp] theorem writeW_flags (s : State) (seg off v : Word) : (s.writeW seg off v).flags = s.flags := rfl
@[simp] theorem writeW_eu (s : State) (seg off v : Word) : (s.writeW seg off v).eu = s.eu := rfl
@[simp] theorem writeW_biu (s : State) (seg off v : Word) : (s.writeW seg off v).biu = s.biu := rfl
@[simp] theorem writeW_plat (s : State) (seg off v : Word) : (s.writeW seg off v).plat = s.plat := rfl
@[simp] theorem writeW_cfg (s : State) (seg off v : Word) : (s.writeW seg off v).cfg = s.cfg := rfl
@[simp] theorem writeW_inputs (s : State) (seg off v : Word) : (s.writeW seg off v).inputs = s.inputs := rfl
@[simp] theorem writeW_pins (s : State) (seg off v : Word) : (s.writeW seg off v).pins = s.pins := rfl
@[simp] theorem writeW_draws (s : State) (seg off v : Word) : (s.writeW seg off v).draws = s.draws := rfl
@[simp] theorem writeW_refused (s : State) (seg off v : Word) : (s.writeW seg off v).refused = s.refused := rfl

@[simp] theorem push_sregs (s : State) (v : Word) : (s.push v).sregs = s.sregs := rfl
@[simp] theorem push_ip (s : State) (v : Word) : (s.push v).ip = s.ip := rfl
@[simp] theorem push_flags (s : State) (v : Word) : (s.push v).flags = s.flags := rfl
@[simp] theorem push_eu (s : State) (v : Word) : (s.push v).eu = s.eu := rfl
@[simp] theorem push_biu (s : State) (v : Word) : (s.push v).biu = s.biu := rfl
@[simp] theorem push_plat (s : State) (v : Word) : (s.push v).plat = s.plat := rfl
@[simp] theorem push_cfg (s : State) (v : Word) : (s.push v).cfg = s.cfg := rfl
@[simp] theorem push_inputs (s : State) (v : Word) : (s.push v).inputs = s.inputs := rfl
@[simp] theorem push_pins (s : State) (v : Word) : (s.push v).pins = s.pins := rfl
@[simp] theorem push_draws (s : State) (v : Word) : (s.push v).draws = s.draws := rfl
@[simp] theorem push_refused (s : State) (v : Word) : (s.push v).refused = s.refused := rfl

@[simp] theorem ioWriteB_regs (s : State) (p : Word) (v : Byte) : (s.ioWriteB p v).regs = s.regs := rfl
@[simp] theorem ioWriteB_sregs (s : State) (p : Word) (v : Byte) : (s.ioWriteB p v).sregs = s.sregs := rfl
@[simp] theorem ioWriteB_ip (s : State) (p : Word) (v : Byte) : (s.ioWriteB p v).ip = s.ip := rfl
@[simp] theorem ioWriteB_flags (s : State) (p : Word) (v : Byte) : (s.ioWriteB p v).flags = s.flags := rfl
@[simp] theorem ioWriteB_eu (s : State) (p : Word) (v : Byte) : (s.ioWriteB p v).eu = s.eu := rfl
@[simp] theorem ioWriteB_biu (s : State) (p : Word) (v : Byte) : (s.ioWriteB p v).biu = s.biu := rfl
@[simp] theorem ioWriteB_mem (s : State) (p : Word) (v : Byte) : (s.ioWriteB p v).mem = s.mem := rfl
@[simp] theorem ioWriteB_plat (s : State) (p : Word) (v : Byte) : (s.ioWriteB p v).plat = s.plat := rfl
@[simp] theorem ioWriteB_cfg (s : State) (p : Word) (v : Byte) : (s.ioWriteB p v).cfg = s.cfg := rfl
@[simp] theorem ioWriteB_inputs (s : State) (p : Word) (v : Byte) : (s.ioWriteB p v).inputs = s.inputs := rfl
@[simp] theorem ioWriteB_pins (s : State) (p : Word) (v : Byte) : (s.ioWriteB p v).pins = s.pins := rfl
@[simp] theorem ioWriteB_draws (s : State) (p : Word) (v : Byte) : (s.ioWriteB p v).draws = s.draws := rfl
@[simp] theorem ioWriteB_refused (s : State) (p : Word) (v : Byte) : (s.ioWriteB p v).refused = s.refused := rfl

@[simp] theorem ioWriteW_regs (s : State) (p v : Word) : (s.ioWriteW p v).regs = s.regs := rfl
@[simp] theorem ioWriteW_sregs (s : State) (p v : Word) : (s.ioWriteW p v).sregs = s.sregs := rfl
@[simp] theorem ioWriteW_ip (s : State) (p v : Word) : (s.ioWriteW p v).ip = s.ip := rfl
@[simp] theorem ioWriteW_flags (s : State) (p v : Word) : (s.ioWriteW p v).flags = s.flags := rfl
@[simp] theorem ioWriteW_eu (s : State) (p v : Word) : (s.ioWriteW p v).eu = s.eu := rfl
@[simp] theorem ioWriteW_biu (s : State) (p v : Word) : (s.ioWriteW p v).biu = s.biu := rfl
@[simp] theorem ioWriteW_mem (s : State) (p v : Word) : (s.ioWriteW p v).mem = s.mem := rfl
@[simp] theorem ioWriteW_plat (s : State) (p v : Word) : (s.ioWriteW p v).plat = s.plat := rfl
@[simp] theorem ioWriteW_cfg (s : State) (p v : Word) : (s.ioWriteW p v).cfg = s.cfg := rfl
@[simp] theorem ioWriteW_inputs (s : State) (p v : Word) : (s.ioWriteW p v).inputs = s.inputs := rfl
@[simp] theorem ioWriteW_pins (s : State) (p v : Word) : (s.ioWriteW p v).pins = s.pins := rfl
@[simp] theorem ioWriteW_draws (s : State) (p v : Word) : (s.ioWriteW p v).draws = s.draws := rfl
@[simp] theorem ioWriteW_refused (s : State) (p v : Word) : (s.ioWriteW p v).refused = s.refused := rfl

@[simp] theorem push_regs (s : State) (v : Word) : (s.push v).regs = { s.regs with sp := s.regs.sp - 2 } := rfl

end Sys2Proof.Laws
end

