-- ==== Sys2Proof/Laws/Bus.lean ====
section
/-! SUPPORT. What the operations of the bus-cycle level do: the EU's actions, the parts of a tick, and the EU that drives
the BIU (20_memory.md R220 to R253). -/

namespace Sys2Proof.Laws

open Sys2Proof Sys2Proof.Machine

/-! ### The EU's actions -/

@[simp] theorem cancelCode_queue (b : Biu) : b.cancelCode.queue = b.queue := rfl
@[simp] theorem cancelCode_preload (b : Biu) : b.cancelCode.preload = b.preload := rfl
@[simp] theorem cancelCode_pc (b : Biu) : b.cancelCode.pc = b.pc := rfl
@[simp] theorem cancelCode_fetch (b : Biu) : b.cancelCode.fetch = b.fetch := rfl
@[simp] theorem cancelCode_status (b : Biu) : b.cancelCode.status = b.status := rfl
@[simp] theorem cancelCode_tState (b : Biu) : b.cancelCode.tState = b.tState := rfl
@[simp] theorem cancelCode_committed (b : Biu) : b.cancelCode.committed = b.committed := rfl
@[simp] theorem cancelCode_euWaiting (b : Biu) : b.cancelCode.euWaiting = b.euWaiting := rfl
@[simp] theorem cancelCode_discarded (b : Biu) : b.cancelCode.discarded = b.discarded := rfl

/-- Cancelling leaves the pipeline as it is, or at rest with no owner. -/
theorem cancelCode_cases (b : Biu) :
    (b.codeAddressing = true ∧ b.cancelCode = { b with ta := .td, owner := none }) ∨
      (b.codeAddressing = false ∧ b.cancelCode = b) := by
  cases h : b.codeAddressing <;> simp [Biu.cancelCode, h]

/-- A read of the queue waits for a byte or takes the head (20_memory.md R231). -/
theorem readQueue_cases (b : Biu) (q : QueueRead) :
    (b.queue = [] ∧
        b.readQueue q = { biu := { b with queueWait := some q }, op := .idle, taken := [], spent := true }) ∨
      ∃ v rest, b.queue = v :: rest ∧ (b.readQueue q).spent = true ∧
        (b.readQueue q).taken = (if q = .fetchNext then [] else [v]) ∧
        (b.readQueue q).op =
          (if q = .next ∨ (q = .afterPrefix ∧ isPrefixByte v = false) then .subsequent else .first) ∧
        (b.readQueue q).biu = { b with
          queue := rest
          preload := if q = .fetchNext then some v else b.preload
          fetch := b.fetch.afterPop rest.length
          queueWait := none } := by
  cases h : b.queue with
  | nil => exact .inl ⟨rfl, by simp [Biu.readQueue, h]⟩
  | cons v rest => exact .inr ⟨v, rest, rfl, by cases q <;> cases hv : isPrefixByte v <;> simp [Biu.readQueue, h, hv]⟩

/-- A property that every action the EU can make keeps is kept by the EU's whole tick, the read of the queue that it may be
held in included. -/
theorem euStep_keeps {P : Biu → Prop} {t : TState} (hact : ∀ b a, P b → b.queueWait = none → b.accepts a = true →
      P (b.act t a).biu)
    (hfree : ∀ (b : Biu) (a : EuAction), b.queueWait = none → (b.act t a).spent = false → (b.act t a).biu.queueWait = none)
    (hread : ∀ b q, P b → b.queueWait = some q → P (b.readQueue q).biu) {b : Biu} (h : P b) (acts : List EuAction) :
    P (b.euStep t acts).biu := by
  unfold Biu.euStep
  cases hq : b.queueWait with
  | some q => exact hread b q h hq
  | none =>
    show P (b.actAll t acts).biu
    induction acts generalizing b with
    | nil => exact h
    | cons a as ih =>
      simp only [Biu.actAll]
      split
      · rename_i ha
        split
        · exact hact b a h hq ha
        · rename_i hs
          exact ih (hact b a h hq ha) (hfree b a hq (by simpa using hs))
      · exact h

/-! ### A tick -/

/-- What a tick's record shows, but for what the bus has latched (20_memory.md R250). -/
theorem busTick_record (s : State) (acts : List EuAction) (a : FabricAnswer) :
    (s.busTick acts a).2.tState = s.biu.tState ∧ (s.busTick acts a).2.ta = s.biu.ta ∧
      (s.busTick acts a).2.queueOp = (s.biu.euStep s.biu.tState acts).op ∧
      (s.busTick acts a).2.signals = busSignals (s.busTick acts a).2.status s.biu.tState :=
  ⟨rfl, rfl, rfl, rfl⟩

/-- A tick leaves registers, flags, the EU's latches and the platform alone. -/
theorem busTick_core (s : State) (acts : List EuAction) (a : FabricAnswer) :
    (s.busTick acts a).1.regs = s.regs ∧ (s.busTick acts a).1.sregs = s.sregs ∧ (s.busTick acts a).1.ip = s.ip ∧
      (s.busTick acts a).1.flags = s.flags ∧ (s.busTick acts a).1.eu = s.eu ∧ (s.busTick acts a).1.plat = s.plat := by
  have h : ∀ u : State, ∀ t, (u.busActions t a).regs = u.regs ∧ (u.busActions t a).sregs = u.sregs ∧
      (u.busActions t a).ip = u.ip ∧ (u.busActions t a).flags = u.flags ∧ (u.busActions t a).eu = u.eu ∧
      (u.busActions t a).plat = u.plat := by
    intro u t; cases t <;> exact ⟨rfl, rfl, rfl, rfl, rfl, rfl⟩
  exact h { s with biu := (s.biu.euStep s.biu.tState acts).biu } s.biu.tState

/-! ### The EU that drives it -/

/-- The boundary enters no interrupt where none is due (60_exceptions.md R1051). -/
theorem entriesDue_nil {s : State} :
    s.entriesDue = [] ↔ s.nmiDue = false ∧ s.intrDue = none ∧ s.trapDue = false := by
  unfold State.entriesDue State.withTrap
  cases s.nmiDue <;> cases s.intrDue <;> cases s.trapDue <;> cases s.cfg.trapWithInterrupt <;> simp

/-- A boundary check that takes no interrupt only ends the shadows (60_exceptions.md R1051). -/
theorem boundaryCheck_none {s : State} (h : s.boundaryCheck.1 = false) : s.boundaryCheck.2 = s.clearShadows := by
  have e : s.entriesDue = [] := by simpa [State.boundaryCheck] using h
  simp [State.boundaryCheck, e]

/-- The core after a move of the EU. -/
def moveCore : EuMove → CycleCore
  | .acts d _ => d
  | .goes d => d

@[simp] theorem commit_biu (c : CycleCore) (x : Execution) : (c.commit x).core.biu = c.core.biu := by
  unfold CycleCore.commit
  cases h : x.result.refused <;> simp [h]

@[simp] theorem sampleTest_biu (s : State) : s.sampleTest.biu = s.biu := by
  unfold State.sampleTest; split <;> rfl

/-- Between ticks the EU changes nothing of the BIU but that it may take the byte in the preload slot. -/
theorem next_biu (c : CycleCore) (pins : StepInput) :
    (moveCore (c.next pins)).core.biu = c.core.biu ∨
      (moveCore (c.next pins)).core.biu = { c.core.biu with preload := none } := by
  unfold CycleCore.next
  split
  · refine .inl ?_
    unfold CycleCore.atBoundary
    split
    · rfl
    · dsimp only
      split
      · rfl
      · split
        · rfl
        · split
          · exact sampleTest_biu _
          · split <;> rfl
  · unfold CycleCore.inDecode
    split
    · exact .inl rfl
    · dsimp only
      split
      · exact .inr rfl
      · exact .inl rfl
      · exact .inl rfl
      · exact .inl rfl
  · refine .inl ?_
    unfold CycleCore.inExecute
    split
    · rfl
    · split <;> exact commit_biu _ _
  · unfold CycleCore.atEnd
    split <;> exact .inl rfl

/-- A property of the BIU that does not fail where the preload slot is emptied is kept between ticks. -/
theorem advance_keeps {P : Biu → Prop} (hp : ∀ b, P b → P { b with preload := none }) (pins : StepInput) (n : Nat)
    {c : CycleCore} (h : P c.core.biu) : P (c.advance pins n).1.core.biu := by
  induction n generalizing c with
  | zero => exact h
  | succ n ih =>
    have k : P (moveCore (c.next pins)).core.biu := by
      rcases next_biu c pins with e | e <;> rw [e]
      · exact h
      · exact hp _ h
    unfold CycleCore.advance
    cases hm : c.next pins with
    | acts d l => rw [hm] at k; exact k
    | goes d => rw [hm] at k; exact ih k

/-- A property of the BIU that every tick of it keeps, whatever the EU asks for, is kept by a tick of the core, if it holds
after reset and does not depend on the preload slot being full or on who holds the lock. -/
theorem tick_keeps {P : Biu → Prop} (hbus : ∀ (s : State) acts a, P s.biu → P (s.busTick acts a).1.biu)
    (hp : ∀ b, P b → P { b with preload := none }) (hl : ∀ (b : Biu) l, P b → P { b with lockHeld := l })
    (hr : P State.reset.biu) {c : CycleCore} (h : P c.core.biu) (pins : StepInput) (g : EuTiming) (a : FabricAnswer) :
    P (c.tick pins g a).1.core.biu := by
  unfold CycleCore.tick
  split
  · exact hr
  · refine hl _ _ (hbus _ _ _ ?_)
    unfold CycleCore.euActions
    dsimp only
    split
    · exact h
    · split
      · split
        · exact advance_keeps hp pins _ h
        · exact h
      · exact h

end Sys2Proof.Laws
end

