-- ==== Sys2Proof/Laws/Decode.lean ====
section
/-! SUPPORT. What the decoder gives on the bytes of the encoder, operand form by operand form (30_encoding.md R300 to
R316). -/

namespace Sys2Proof.Laws

open Sys2Proof

/-! ### Codes -/

theorem reg8_ofBits_bits (r : Reg8) : Reg8.ofBits r.bits = r := by cases r <;> rfl
theorem reg16_ofBits_bits (r : Reg16) : Reg16.ofBits r.bits = r := by cases r <;> rfl
theorem eaBase_ofBits_bits (b : EABase) : EABase.ofBits b.bits = b := by cases b <;> rfl

theorem rm8_map (m : RM Reg8) : (m.map Reg8.bits).map Reg8.ofBits = m := by
  cases m <;> simp [RM.map, reg8_ofBits_bits]

theorem rm16_map (m : RM Reg16) : (m.map Reg16.bits).map Reg16.ofBits = m := by
  cases m <;> simp [RM.map, reg16_ofBits_bits]

theorem rm_map_wf {R S : Type} (f : R → S) (m : RM R) : (m.map f).wf = m.wf := by cases m <;> rfl

/-! ### Words and the fields of the ModR/M byte -/

theorem wordOf_loByte_hiByte (w : Word) : wordOf (loByte w) (hiByte w) = w := by
  simp only [wordOf, loByte, hiByte]
  ext i hi
  simp
  grind

theorem modField_modRMByte (mod : BitVec 2) (reg rm : BitVec 3) : modField (modRMByte mod reg rm) = mod := by
  revert mod reg rm; decide

theorem regField_modRMByte (mod : BitVec 2) (reg rm : BitVec 3) : regField (modRMByte mod reg rm) = reg := by
  revert mod reg rm; decide

theorem rmField_modRMByte (mod : BitVec 2) (reg rm : BitVec 3) : rmField (modRMByte mod reg rm) = rm := by
  revert mod reg rm; decide

/-- The bytes of an r/m operand are a ModR/M byte with the given reg field, then what `decodeRM` reads back. -/
theorem decodeRM_encodeRM (reg : BitVec 3) (m : RM (BitVec 3)) (h : m.wf = true) :
    ∃ b d, encodeRM reg m = b :: d ∧ regField b = reg ∧ (∀ rest, decodeRM b (d ++ rest) = some (m, rest)) ∧
      (modField b = 3 ↔ ∃ r, m = .reg r) := by
  match m, h with
  | .reg r, _ =>
    exact ⟨_, _, rfl, regField_modRMByte .., fun rest => by simp [decodeRM, modField_modRMByte, rmField_modRMByte],
      by simp [modField_modRMByte]⟩
  | .mem (.direct d), _ =>
    exact ⟨_, _, rfl, regField_modRMByte .., fun rest => by
      simp [decodeRM, modField_modRMByte, rmField_modRMByte, wordBytes, wordOf_loByte_hiByte],
      by simp [modField_modRMByte]⟩
  | .mem (.based b .none), h =>
    refine ⟨_, _, rfl, regField_modRMByte .., fun rest => ?_, by simp [modField_modRMByte]⟩
    simp only [decodeRM, modField_modRMByte, rmField_modRMByte, eaBase_ofBits_bits]
    cases b <;> simp_all [EABase.bits, RM.wf, EA.wf]
  | .mem (.based b (.d8 d)), _ =>
    exact ⟨_, _, rfl, regField_modRMByte .., fun rest => by
      simp [decodeRM, modField_modRMByte, rmField_modRMByte, eaBase_ofBits_bits], by simp [modField_modRMByte]⟩
  | .mem (.based b (.d16 d)), _ =>
    exact ⟨_, _, rfl, regField_modRMByte .., fun rest => by
      simp [decodeRM, modField_modRMByte, rmField_modRMByte, eaBase_ofBits_bits, wordBytes, wordOf_loByte_hiByte],
      by simp [modField_modRMByte]⟩

/-! ### Forms -/

/-- An opcode without a ModR/M byte. -/
theorem decode_tail {op : Byte} {t : Tail} (h : opForm op = .tail t) (bs : List Byte) :
    decode (op :: bs) = t.finish bs := by
  simp only [decode, h]

/-- An opcode with a ModR/M byte, on the bytes of an r/m operand that R313 does not refuse. -/
theorem decode_rm {op : Byte} {k : Byte → BitVec 3 → RM (BitVec 3) → Tail} {reg : BitVec 3} {m : RM (BitVec 3)}
    {t : Tail} (h : opForm op = .modrm k) (hw : m.wf = true)
    (hr : ∀ b, regField b = reg → (modField b = 3 → ∃ r, m = .reg r) → refusedEncoding op (some b) = false)
    (hk : ∀ b, k b reg m = t) (bs : List Byte) :
    decode (op :: (encodeRM reg m ++ bs)) = t.finish bs := by
  obtain ⟨b, d, he, hreg, hd, hm⟩ := decodeRM_encodeRM reg m hw
  simp only [decode, h, he, List.cons_append, decodeModRM, hr b hreg hm.1, hd, hreg, hk, Bool.false_eq_true, if_false]

/-! ### Round trips, by operand form -/

theorem finish_iw (f : Word → Instr) (w : Word) (rest : List Byte) :
    (Tail.iw f).finish (wordBytes w ++ rest) = .ok (f w, rest) := by
  simp [Tail.finish, wordBytes, wordOf_loByte_hiByte]

theorem roundTrip_iw {op : Byte} {f : Word → Instr} (h : opForm op = .tail (.iw f)) (w : Word) (rest : List Byte) :
    decode (op :: wordBytes w ++ rest) = .ok (f w, rest) :=
  (decode_tail h _).trans (finish_iw f w rest)

theorem roundTrip_far {op : Byte} {f : Word → Word → Instr} (h : opForm op = .tail (.far f)) (a b : Word)
    (rest : List Byte) : decode (op :: (wordBytes a ++ wordBytes b) ++ rest) = .ok (f a b, rest) := by
  rw [List.cons_append, decode_tail h]
  simp [Tail.finish, wordBytes, wordOf_loByte_hiByte]

theorem roundTrip_ebGb {op : Byte} {f : RM Reg8 → Reg8 → Instr} (h : opForm op = ebGb f)
    (hr : ∀ b, refusedEncoding op (some b) = false) (m : RM Reg8) (g : Reg8) (hw : m.wf = true) (rest : List Byte) :
    decode (op :: encodeRM g.bits (m.map Reg8.bits) ++ rest) = .ok (f m g, rest) :=
  decode_rm (t := .done (f m g)) h ((rm_map_wf ..).trans hw) (fun b _ _ => hr b)
    (fun b => by rw [rm8_map, reg8_ofBits_bits]) rest

theorem roundTrip_ewGw {op : Byte} {f : RM Reg16 → Reg16 → Instr} (h : opForm op = ewGw f)
    (hr : ∀ b, refusedEncoding op (some b) = false) (m : RM Reg16) (g : Reg16) (hw : m.wf = true)
    (rest : List Byte) : decode (op :: encodeRM g.bits (m.map Reg16.bits) ++ rest) = .ok (f m g, rest) :=
  decode_rm (t := .done (f m g)) h ((rm_map_wf ..).trans hw) (fun b _ _ => hr b)
    (fun b => by rw [rm16_map, reg16_ofBits_bits]) rest

theorem roundTrip_gbEb {op : Byte} {f : Reg8 → RM Reg8 → Instr} (h : opForm op = gbEb f)
    (hr : ∀ b, refusedEncoding op (some b) = false) (g : Reg8) (m : RM Reg8) (hw : m.wf = true) (rest : List Byte) :
    decode (op :: encodeRM g.bits (m.map Reg8.bits) ++ rest) = .ok (f g m, rest) :=
  decode_rm (t := .done (f g m)) h ((rm_map_wf ..).trans hw) (fun b _ _ => hr b)
    (fun b => by rw [rm8_map, reg8_ofBits_bits]) rest

theorem roundTrip_gwEw {op : Byte} {f : Reg16 → RM Reg16 → Instr} (h : opForm op = gwEw f)
    (hr : ∀ b, refusedEncoding op (some b) = false) (g : Reg16) (m : RM Reg16) (hw : m.wf = true)
    (rest : List Byte) : decode (op :: encodeRM g.bits (m.map Reg16.bits) ++ rest) = .ok (f g m, rest) :=
  decode_rm (t := .done (f g m)) h ((rm_map_wf ..).trans hw) (fun b _ _ => hr b)
    (fun b => by rw [rm16_map, reg16_ofBits_bits]) rest

theorem roundTrip_esc {op : Byte} {f : BitVec 3 → RM Reg16 → Instr} (h : opForm op = esc f)
    (hr : ∀ b, refusedEncoding op (some b) = false) (x : BitVec 3) (m : RM Reg16) (hw : m.wf = true)
    (rest : List Byte) : decode (op :: encodeRM x (m.map Reg16.bits) ++ rest) = .ok (f x m, rest) :=
  decode_rm (t := .done (f x m)) h ((rm_map_wf ..).trans hw) (fun b _ _ => hr b) (fun b => by rw [rm16_map]) rest

theorem roundTrip_gwMp {op : Byte} {f : Reg16 → EA → Instr} (h : opForm op = gwMp f)
    (hr : ∀ b, modField b ≠ 3 → refusedEncoding op (some b) = false) (g : Reg16) (a : EA) (hw : a.wf = true)
    (rest : List Byte) : decode (op :: encodeRM g.bits (.mem a) ++ rest) = .ok (f g a, rest) :=
  decode_rm (m := .mem a) (t := .done (f g a)) h hw
    (fun b _ hm => hr b fun h3 => by obtain ⟨r, hr'⟩ := hm h3; cases hr') (fun b => by simp [memOnly, reg16_ofBits_bits])
    rest

/-- The forms of a group opcode with an operand of 8 bits. -/
theorem roundTrip_grp8 {op : Byte} {k : Byte → BitVec 3 → RM (BitVec 3) → Tail} (reg : BitVec 3) (m : RM Reg8)
    (t : RM Reg8 → Tail) (h : opForm op = .modrm k)
    (hr : ∀ b, regField b = reg → refusedEncoding op (some b) = false) (hw : m.wf = true)
    (hk : ∀ b, k b reg (m.map Reg8.bits) = t ((m.map Reg8.bits).map Reg8.ofBits)) (rest : List Byte) :
    decode (op :: (encodeRM reg (m.map Reg8.bits) ++ rest)) = (t m).finish rest :=
  decode_rm h ((rm_map_wf ..).trans hw) (fun b hb _ => hr b hb) (fun b => by rw [hk, rm8_map]) rest

/-- The forms of a group opcode with an operand of 16 bits. -/
theorem roundTrip_grp16 {op : Byte} {k : Byte → BitVec 3 → RM (BitVec 3) → Tail} (reg : BitVec 3) (m : RM Reg16)
    (t : RM Reg16 → Tail) (h : opForm op = .modrm k)
    (hr : ∀ b, regField b = reg → refusedEncoding op (some b) = false) (hw : m.wf = true)
    (hk : ∀ b, k b reg (m.map Reg16.bits) = t ((m.map Reg16.bits).map Reg16.ofBits)) (rest : List Byte) :
    decode (op :: (encodeRM reg (m.map Reg16.bits) ++ rest)) = (t m).finish rest :=
  decode_rm h ((rm_map_wf ..).trans hw) (fun b hb _ => hr b hb) (fun b => by rw [hk, rm16_map]) rest

theorem roundTrip_grp8Ib {op : Byte} {k : Byte → BitVec 3 → RM (BitVec 3) → Tail} (reg : BitVec 3) (m : RM Reg8)
    (f : RM Reg8 → Byte → Instr) (h : opForm op = .modrm k)
    (hr : ∀ b, regField b = reg → refusedEncoding op (some b) = false) (hw : m.wf = true)
    (hk : ∀ b, k b reg (m.map Reg8.bits) = .ib (f ((m.map Reg8.bits).map Reg8.ofBits))) (imm : Byte)
    (rest : List Byte) :
    decode (op :: (encodeRM reg (m.map Reg8.bits) ++ [imm]) ++ rest) = .ok (f m imm, rest) := by
  rw [List.cons_append, List.append_assoc, roundTrip_grp8 reg m (fun e => .ib (f e)) h hr hw hk]
  exact rfl

theorem roundTrip_grp16Iw {op : Byte} {k : Byte → BitVec 3 → RM (BitVec 3) → Tail} (reg : BitVec 3) (m : RM Reg16)
    (f : RM Reg16 → Word → Instr) (h : opForm op = .modrm k)
    (hr : ∀ b, regField b = reg → refusedEncoding op (some b) = false) (hw : m.wf = true)
    (hk : ∀ b, k b reg (m.map Reg16.bits) = .iw (f ((m.map Reg16.bits).map Reg16.ofBits))) (imm : Word)
    (rest : List Byte) :
    decode (op :: (encodeRM reg (m.map Reg16.bits) ++ wordBytes imm) ++ rest) = .ok (f m imm, rest) := by
  rw [List.cons_append, List.append_assoc, roundTrip_grp16 reg m (fun e => .iw (f e)) h hr hw hk]
  exact finish_iw (f m) imm rest

theorem roundTrip_grp16Ib {op : Byte} {k : Byte → BitVec 3 → RM (BitVec 3) → Tail} (reg : BitVec 3) (m : RM Reg16)
    (f : RM Reg16 → Byte → Instr) (h : opForm op = .modrm k)
    (hr : ∀ b, regField b = reg → refusedEncoding op (some b) = false) (hw : m.wf = true)
    (hk : ∀ b, k b reg (m.map Reg16.bits) = .ib (f ((m.map Reg16.bits).map Reg16.ofBits))) (imm : Byte)
    (rest : List Byte) :
    decode (op :: (encodeRM reg (m.map Reg16.bits) ++ [imm]) ++ rest) = .ok (f m imm, rest) := by
  rw [List.cons_append, List.append_assoc, roundTrip_grp16 reg m (fun e => .ib (f e)) h hr hw hk]
  exact rfl

/-- The far indirect forms of group 5, whose register form R313 refuses. -/
theorem roundTrip_grpMem {op : Byte} {k : Byte → BitVec 3 → RM (BitVec 3) → Tail} (reg : BitVec 3) (a : EA)
    (t : Tail) (h : opForm op = .modrm k)
    (hr : ∀ b, regField b = reg → modField b ≠ 3 → refusedEncoding op (some b) = false) (hw : a.wf = true)
    (hk : ∀ b, k b reg (.mem a) = t) (rest : List Byte) :
    decode (op :: (encodeRM reg (.mem a) ++ rest)) = t.finish rest :=
  decode_rm (m := .mem a) h hw (fun b hb hm => hr b hb fun h3 => by obtain ⟨r, hr'⟩ := hm h3; cases hr')
    (fun b => hk b) rest

end Sys2Proof.Laws
end

