-- ==== Sys2Proof/Laws/Memory.lean ====
section
/-! SUPPORT. The laws of memory: reading after writing, and that writing keeps the canonical form (20_memory.md R200,
R212; log 3). -/

namespace Sys2Proof.Laws

open Sys2Proof Sys2Proof.Machine

/-! ### Cells -/

theorem cellsRead_cellsCons (a : Nat) (v : Byte) (t : List Host.Cell) (b : Nat) (h : cellsRead t a = unlistedByte) :
    cellsRead (cellsCons a v t) b = if b = a then v else cellsRead t b := by
  unfold cellsCons
  split <;> rename_i hv
  · subst hv
    split <;> simp_all
  · simp only [cellsRead]
    grind

/-- Below the least address listed nothing is listed. -/
theorem cellsRead_below {lo : Nat} {t : List Host.Cell} (h : cellsWf lo t = true) {a : Nat} (ha : a < lo) :
    cellsRead t a = unlistedByte := by
  induction t generalizing lo with
  | nil => rfl
  | cons c t ih =>
    obtain ⟨k, w⟩ := c
    simp only [cellsWf, Bool.and_eq_true, decide_eq_true_eq] at h
    have : k ≠ a := by omega
    simpa [cellsRead, this] using ih h.2 (by omega)

/-- Reading after writing: the byte written at its address, what was there everywhere else. -/
theorem cellsRead_cellsWrite {lo : Nat} {t : List Host.Cell} (h : cellsWf lo t = true) (a : Nat) (v : Byte) (b : Nat) :
    cellsRead (cellsWrite t a v) b = if b = a then v else cellsRead t b := by
  induction t generalizing lo with
  | nil => exact cellsRead_cellsCons a v [] b rfl
  | cons c t ih =>
    obtain ⟨k, w⟩ := c
    have hw := h
    simp only [cellsWf, Bool.and_eq_true, decide_eq_true_eq] at h
    simp only [cellsWrite]
    split
    · refine cellsRead_cellsCons a v _ b ?_
      have : k ≠ a := by omega
      simpa [cellsRead, this] using cellsRead_below h.2 (by omega)
    · split
      · rename_i _ hk
        rw [cellsRead_cellsCons a v _ b (cellsRead_below h.2 (by omega))]
        grind [cellsRead]
      · have := ih h.2
        grind [cellsRead]

theorem cellsWf_mono {lo lo' : Nat} (hl : lo' ≤ lo) {t : List Host.Cell} (h : cellsWf lo t = true) :
    cellsWf lo' t = true := by
  cases t with
  | nil => rfl
  | cons c t =>
    simp only [cellsWf, Bool.and_eq_true, decide_eq_true_eq] at h ⊢
    exact ⟨⟨⟨by omega, h.1.1.2⟩, h.1.2⟩, h.2⟩

theorem cellsWf_cellsCons {lo a : Nat} {t : List Host.Cell} (h : cellsWf (a + 1) t = true) (hl : lo ≤ a)
    (ha : a < 2 ^ 20) (v : Byte) : cellsWf lo (cellsCons a v t) = true := by
  unfold cellsCons
  split
  · exact cellsWf_mono (by omega) h
  · simp [cellsWf, *]
    omega

theorem cellsWf_cellsWrite {lo : Nat} {t : List Host.Cell} (h : cellsWf lo t = true) {a : Nat} (hl : lo ≤ a)
    (ha : a < 2 ^ 20) (v : Byte) : cellsWf lo (cellsWrite t a v) = true := by
  induction t generalizing lo with
  | nil => exact cellsWf_cellsCons rfl hl ha v
  | cons c t ih =>
    obtain ⟨k, w⟩ := c
    have hw := h
    simp only [cellsWf, Bool.and_eq_true, decide_eq_true_eq] at h
    simp only [cellsWrite]
    split
    · refine cellsWf_cellsCons ?_ hl ha v
      simp only [cellsWf, Bool.and_eq_true, decide_eq_true_eq]
      exact ⟨⟨⟨by omega, h.1.1.2⟩, h.1.2⟩, h.2⟩
    · split
      · rename_i _ hk
        subst hk
        exact cellsWf_cellsCons h.2 hl ha v
      · simp only [cellsWf, Bool.and_eq_true, decide_eq_true_eq]
        exact ⟨h.1, ih h.2 (by omega)⟩

/-! ### Memory -/

/-- A write gives the byte written at its address and leaves every other address alone. -/
theorem Memory.read_write {m : Memory} (h : m.wf = true) (a : LinAddr) (v : Byte) (b : LinAddr) :
    (m.write a v).read b = if b = a then v else m.read b := by
  have := cellsRead_cellsWrite (lo := 0) h a.toNat v b.toNat
  simpa [Memory.read, Memory.write, BitVec.toNat_inj] using this

/-- A write keeps the canonical form. -/
theorem Memory.wf_write {m : Memory} (h : m.wf = true) (a : LinAddr) (v : Byte) : (m.write a v).wf = true :=
  cellsWf_cellsWrite h (Nat.zero_le _) a.isLt v

/-- The reset memory has the canonical form. -/
theorem Memory.wf_reset : State.reset.mem.wf = true := rfl

/-- Two memories in canonical form that read alike at every address are equal. -/
theorem cells_ext {lo : Nat} {t u : List Host.Cell} (ht : cellsWf lo t = true) (hu : cellsWf lo u = true)
    (h : ∀ a, a < 2 ^ 20 → cellsRead t a = cellsRead u a) : t = u := by
  induction t generalizing lo u with
  | nil =>
    cases u with
    | nil => rfl
    | cons c u =>
      obtain ⟨k, w⟩ := c
      simp only [cellsWf, Bool.and_eq_true, decide_eq_true_eq] at hu
      have := h k hu.1.1.2
      simp [cellsRead] at this
      simp [← this] at hu
  | cons c t ih =>
    obtain ⟨k, w⟩ := c
    simp only [cellsWf, Bool.and_eq_true, decide_eq_true_eq] at ht
    cases u with
    | nil =>
      have := h k ht.1.1.2
      simp [cellsRead] at this
      simp [this] at ht
    | cons d u =>
      obtain ⟨l, x⟩ := d
      simp only [cellsWf, Bool.and_eq_true, decide_eq_true_eq] at hu
      have hk := h k ht.1.1.2
      have hl := h l hu.1.1.2
      have hkl : k = l := by
        rcases Nat.lt_trichotomy k l with hlt | heq | hgt
        · have hb := cellsRead_below hu.2 (a := k) (by omega)
          have : l ≠ k := by omega
          simp [cellsRead, this, hb] at hk
          simp [hk] at ht
        · exact heq
        · have hb := cellsRead_below ht.2 (a := l) (by omega)
          have : k ≠ l := by omega
          simp [cellsRead, this, hb] at hl
          simp [← hl] at hu
      subst hkl
      have hwx : w = x := by simpa [cellsRead] using hk
      subst hwx
      have := ih ht.2 hu.2 fun a ha => by
        by_cases hak : a = k
        · subst hak
          rw [cellsRead_below ht.2 (by omega), cellsRead_below hu.2 (by omega)]
        · have hka : k ≠ a := fun e => hak e.symm
          simpa [cellsRead, hka] using h a ha
      rw [this]

/-- Equal memories are equal data. -/
theorem Memory.ext_read {m n : Memory} (hm : m.wf = true) (hn : n.wf = true) (h : ∀ a, m.read a = n.read a) : m = n := by
  have := cells_ext (lo := 0) hm hn fun a ha => by
    have := h (BitVec.ofNat 20 a)
    simpa only [Memory.read, BitVec.toNat_ofNat, Nat.mod_eq_of_lt ha] using this
  cases m; cases n; simp_all

end Sys2Proof.Laws
end

