-- ==== Sys2Proof/Laws/Ops.lean ====
section
/-! SUPPORT. What each shared operation can do, said once: what a read leaves alone and gives, what a write stores, what
a push, a pop, a jump and an interrupt entry leave behind. -/

namespace Sys2Proof.Laws

open Sys2Proof Sys2Proof.Machine

/-! ### Linear addresses -/

/-- Two offsets of one segment have different linear addresses (20_memory.md R201). -/
theorem lin_inj {seg a b : Word} (h : lin seg a = lin seg b) : a = b := by
  simp only [lin] at h
  have : a.setWidth 20 = b.setWidth 20 := by simpa using h
  have := congrArg (BitVec.setWidth 16) this
  simpa using this

theorem lin_ne_succ (seg a : Word) : lin seg (a + 1) ≠ lin seg a := fun h => by
  have := lin_inj h
  bv_omega

/-! ### Reads: a step that only takes an answer of the platform, a draw, and a place in the record -/

/-- Nothing but the script of answers, the draws and the record of transactions differs. -/
structure ReadOnly (s t : State) : Prop where
  regs : t.regs = s.regs
  sregs : t.sregs = s.sregs
  ip : t.ip = s.ip
  flags : t.flags = s.flags
  eu : t.eu = s.eu
  biu : t.biu = s.biu
  mem : t.mem = s.mem
  cfg : t.cfg = s.cfg
  inputs : t.inputs = s.inputs
  pins : t.pins = s.pins
  refused : t.refused = s.refused
  regions : t.plat.regions = s.plat.regions
  ports : t.plat.ports = s.plat.ports
  bus : s.bus <+: t.bus

theorem ReadOnly.refl (s : State) : ReadOnly s s := by constructor <;> rfl

theorem ReadOnly.trans {s t u : State} (h : ReadOnly s t) (k : ReadOnly t u) : ReadOnly s u where
  regs := k.regs.trans h.regs
  sregs := k.sregs.trans h.sregs
  ip := k.ip.trans h.ip
  flags := k.flags.trans h.flags
  eu := k.eu.trans h.eu
  biu := k.biu.trans h.biu
  mem := k.mem.trans h.mem
  cfg := k.cfg.trans h.cfg
  inputs := k.inputs.trans h.inputs
  pins := k.pins.trans h.pins
  refused := k.refused.trans h.refused
  regions := k.regions.trans h.regions
  ports := k.ports.trans h.ports
  bus := h.bus.trans k.bus

theorem ReadOnly.kindAt {s t : State} (h : ReadOnly s t) (a : LinAddr) : t.plat.kindAt a = s.plat.kindAt a := by
  simp only [Platform.kindAt, h.regions]

theorem ReadOnly.sameCore {s t : State} (h : ReadOnly s t) : SameCore s t :=
  ⟨⟨h.cfg, h.inputs, h.pins, h.refused, h.regions, h.ports, h.bus⟩, h.sregs, h.ip, h.eu, h.biu⟩

theorem readOnly_record (s : State) (k : BusStatus) (a : LinAddr) (v : Byte) (f : Bool) :
    ReadOnly s (s.record k a v f) := by
  constructor <;> first | rfl | exact List.prefix_append ..

theorem readOnly_answer (s : State) : ReadOnly s s.answer.2 := by
  unfold State.answer
  split <;> constructor <;> rfl

theorem readOnly_memAnswer (s : State) (a : LinAddr) : ReadOnly s (s.memAnswer a).2 := by
  unfold State.memAnswer
  split
  · exact .refl s
  · exact readOnly_answer s
  · exact .refl s

theorem readOnly_memRead (s : State) (a : LinAddr) (f : Bool) : ReadOnly s (s.memRead a f).2 :=
  (readOnly_memAnswer s a).trans (readOnly_record ..)

theorem readOnly_readB (s : State) (seg off : Word) : ReadOnly s (s.readB seg off).2 := readOnly_memRead ..

theorem readOnly_readW (s : State) (seg off : Word) : ReadOnly s (s.readW seg off).2 :=
  (readOnly_memRead s ..).trans (readOnly_memRead ..)

theorem readOnly_ioRead (s : State) (p : Word) (f : Bool) : ReadOnly s (s.ioRead p f).2 := by
  unfold State.ioRead
  split
  · exact (readOnly_answer s).trans (readOnly_record ..)
  · exact readOnly_record ..

theorem readOnly_ioReadB (s : State) (p : Word) : ReadOnly s (s.ioReadB p).2 := readOnly_ioRead ..

theorem readOnly_ioReadW (s : State) (p : Word) : ReadOnly s (s.ioReadW p).2 :=
  (readOnly_ioRead s p false).trans (readOnly_ioRead ..)

theorem readOnly_readRM8 (s : State) (m : RM Reg8) : ReadOnly s (s.readRM8 m).2 := by
  cases m with
  | reg r => exact .refl s
  | mem a => exact readOnly_readB ..

theorem readOnly_readRM16 (s : State) (m : RM Reg16) : ReadOnly s (s.readRM16 m).2 := by
  cases m with
  | reg r => exact .refl s
  | mem a => exact readOnly_readW ..

theorem readOnly_readFar (s : State) (a : EA) : ReadOnly s (s.readFar a).2 :=
  (readOnly_readW ..).trans (readOnly_readW ..)

theorem readOnly_readVector (s : State) (n : Byte) : ReadOnly s (s.readVector n).2 :=
  (readOnly_readW ..).trans (readOnly_readW ..)

theorem readOnly_readWidth (s : State) (w : Width) (seg off : Word) : ReadOnly s (s.readWidth w seg off).2 := by
  cases w
  · exact readOnly_readB ..
  · exact readOnly_readW ..

/-! ### What a read of RAM gives -/

theorem memRead_ram {s : State} {a : LinAddr} (h : s.IsRam a) (f : Bool) :
    s.memRead a f = (s.mem.read a, s.record .memRead a (s.mem.read a) f) := by
  have h' : s.plat.kindAt a = none := h
  simp [State.memRead, State.memAnswer, h']

theorem readB_ram {s : State} {seg off : Word} (h : s.IsRam (lin seg off)) :
    (s.readB seg off).1 = s.mem.read (lin seg off) := by
  rw [State.readB, memRead_ram h]

theorem readW_ram {s : State} {seg off : Word} (h : s.IsRam (lin seg off)) (h' : s.IsRam (lin seg (off + 1))) :
    (s.readW seg off).1 = wordOf (s.mem.read (lin seg off)) (s.mem.read (lin seg (off + 1))) := by
  have hk : (s.memRead (lin seg off) false).2.IsRam (lin seg (off + 1)) :=
    ((readOnly_memRead s (lin seg off) false).kindAt _).trans h'
  simp only [State.readW, memRead_ram hk, (readOnly_memRead s (lin seg off) false).mem]
  rw [memRead_ram h]

/-! ### Writes -/

@[simp] theorem writeW_kindAt (s : State) (seg off v : Word) (a : LinAddr) :
    (s.writeW seg off v).plat.kindAt a = s.plat.kindAt a := rfl

theorem byteAfter_append (s : State) (l k : List (LinAddr × Byte)) (a : LinAddr) :
    s.byteAfter (l ++ k) a =
      k.foldl (fun old x => if x.1 = a ∧ s.plat.kindAt a = none then x.2 else old) (s.byteAfter l a) := by
  simp [State.byteAfter]

/-- Stores after stores, in the order they are made. -/
theorem MemAfter.append {s t u : State} {l k : List (LinAddr × Byte)} (h : MemAfter s t l) (h' : MemAfter t u k)
    (hp : t.plat.regions = s.plat.regions) : MemAfter s u (l ++ k) := fun a => by
  have hk : t.plat.kindAt a = s.plat.kindAt a := by simp only [Platform.kindAt, hp]
  rw [h' a, byteAfter_append, ← h a, State.byteAfter, hk]

theorem MemAfter.of_same {s s' t : State} {l : List (LinAddr × Byte)} (h : MemAfter s' t l) (hm : s'.mem = s.mem)
    (hp : s'.plat.regions = s.plat.regions) : MemAfter s t l := fun a => by
  simpa [State.byteAfter, Platform.kindAt, hm, hp] using h a

theorem MemAfter.to_same {s t t' : State} {l : List (LinAddr × Byte)} (h : MemAfter s t l) (hm : t'.mem = t.mem) :
    MemAfter s t' l := fun a => by rw [hm]; exact h a

/-- A byte store. -/
theorem memAfter_memWrite {s : State} (h : s.MemOk) (b : LinAddr) (v : Byte) (f : Bool) :
    MemAfter s (s.memWrite b v f) [(b, v)] := fun a => by
  have hm : s.mem.wf = true := h
  simp only [memWrite_mem, State.byteAfter, List.foldl_cons, List.foldl_nil]
  by_cases ha : b = a
  · subst ha
    split <;> simp_all [Memory.read_write hm]
  · split
    · rw [Memory.read_write hm, if_neg (Ne.symm ha), if_neg fun h => ha h.1]
    · rw [if_neg fun h => ha h.1]

theorem memAfter_writeB {s : State} (h : s.MemOk) (seg off : Word) (v : Byte) :
    MemAfter s (s.writeB seg off v) (byteStore seg off v) :=
  memAfter_memWrite h (lin seg off) v true

theorem memOk_memWrite {s : State} (h : s.MemOk) (a : LinAddr) (v : Byte) (f : Bool) : (s.memWrite a v f).MemOk := by
  simp only [State.MemOk, memWrite_mem] at *
  split
  · exact Memory.wf_write h ..
  · exact h

theorem memOk_writeW {s : State} (h : s.MemOk) (seg off v : Word) : (s.writeW seg off v).MemOk :=
  memOk_memWrite (memOk_memWrite h ..) ..

/-- A word store. -/
theorem memAfter_writeW {s : State} (h : s.MemOk) (seg off v : Word) :
    MemAfter s (s.writeW seg off v) (wordStores seg off v) :=
  MemAfter.append (memAfter_memWrite h (lin seg off) (loByte v) false)
    (memAfter_memWrite (memOk_memWrite h ..) (lin seg (off + 1)) (hiByte v) true) rfl

/-- A push. -/
theorem memAfter_push {s : State} (h : s.MemOk) (v : Word) :
    MemAfter s (s.push v) (wordStores s.sregs.ss (s.regs.sp - 2) v) :=
  MemAfter.of_same (memAfter_writeW (s := s.setReg16 .sp (s.regs.sp - 2)) h s.sregs.ss (s.regs.sp - 2) v) rfl rfl

theorem memOk_push {s : State} (h : s.MemOk) (v : Word) : (s.push v).MemOk := memOk_writeW (s := s.setReg16 ..) h ..

theorem prefix_memWrite (s : State) (a : LinAddr) (v : Byte) (f : Bool) : s.bus <+: (s.memWrite a v f).bus :=
  List.prefix_append ..

theorem prefix_writeB (s : State) (seg off : Word) (v : Byte) : s.bus <+: (s.writeB seg off v).bus :=
  prefix_memWrite ..

theorem prefix_writeW (s : State) (seg off v : Word) : s.bus <+: (s.writeW seg off v).bus :=
  (prefix_memWrite ..).trans (prefix_memWrite ..)

/-! ### Registers -/

theorem onlyReg16_set (s : State) (r : Reg16) (v : Word) : OnlyReg16 s (s.setReg16 r v) r v :=
  ⟨regs_get_set_self .., fun _ h => regs_get_set_ne _ _ h⟩

theorem loByte_wordOf (a b : Byte) : loByte (wordOf a b) = a := by
  simp only [wordOf, loByte]
  ext i hi
  simp
  grind

theorem hiByte_wordOf (a b : Byte) : hiByte (wordOf a b) = b := by
  simp only [wordOf, hiByte]
  ext i hi
  simp only [BitVec.getElem_extractLsb', BitVec.getLsbD_append]
  simp
  grind

theorem wordOf_lo_hi (w : Word) : wordOf (loByte w) (hiByte w) = w := by
  simp only [wordOf, loByte, hiByte]
  ext i hi
  simp
  grind

/-- Writing a byte register changes that byte register and nothing else (10_state.md R100). -/
theorem onlyReg8_set (s : State) (r : Reg8) (v : Byte) : OnlyReg8 s (s.setReg8 r v) r v := by
  refine ⟨?_, fun q hq => ?_, ?_, ?_, ?_, ?_⟩
  · cases r <;>
      simp [State.reg8, Regs.get8, Regs.set8, Reg8.isHigh, Reg8.whole, setLoByte, setHiByte, loByte_wordOf,
        hiByte_wordOf]
  · cases r <;> cases q <;> first
      | exact absurd rfl hq
      | simp [State.reg8, Regs.get8, Regs.set8, Reg8.isHigh, Reg8.whole, setLoByte, setHiByte, loByte_wordOf,
          hiByte_wordOf, Regs.get, Regs.set]
  all_goals cases r <;> rfl

/-! ### r/m operands -/

theorem wrote8_writeRM8 {s : State} (h : s.MemOk) (m : RM Reg8) (v : Byte) : Wrote8 s (s.writeRM8 m v) m v := by
  cases m with
  | reg r => exact ⟨onlyReg8_set .., fun _ => rfl⟩
  | mem a => exact ⟨fun _ => rfl, memAfter_writeB h _ _ _⟩

theorem wrote16_writeRM16 {s : State} (h : s.MemOk) (m : RM Reg16) (v : Word) : Wrote16 s (s.writeRM16 m v) m v := by
  cases m with
  | reg r => exact ⟨onlyReg16_set .., fun _ => rfl⟩
  | mem a => exact ⟨fun _ => rfl, memAfter_writeW h _ _ _⟩

theorem flags_writeRM8 (s : State) (m : RM Reg8) (v : Byte) : (s.writeRM8 m v).flags = s.flags := by cases m <;> rfl
theorem flags_writeRM16 (s : State) (m : RM Reg16) (v : Word) : (s.writeRM16 m v).flags = s.flags := by cases m <;> rfl

theorem sameCore_writeRM8 (s : State) (m : RM Reg8) (v : Byte) : SameCore s (s.writeRM8 m v) := by
  cases m with
  | reg r => exact ⟨⟨rfl, rfl, rfl, rfl, rfl, rfl, List.prefix_refl _⟩, rfl, rfl, rfl, rfl⟩
  | mem a => exact ⟨⟨rfl, rfl, rfl, rfl, rfl, rfl, prefix_writeB ..⟩, rfl, rfl, rfl, rfl⟩

theorem sameCore_writeRM16 (s : State) (m : RM Reg16) (v : Word) : SameCore s (s.writeRM16 m v) := by
  cases m with
  | reg r => exact ⟨⟨rfl, rfl, rfl, rfl, rfl, rfl, List.prefix_refl _⟩, rfl, rfl, rfl, rfl⟩
  | mem a => exact ⟨⟨rfl, rfl, rfl, rfl, rfl, rfl, prefix_writeW ..⟩, rfl, rfl, rfl, rfl⟩

/-! ### Changing the state something is said of -/

theorem SameFixed.trans {s t u : State} (h : SameFixed s t) (k : SameFixed t u) : SameFixed s u := by
  obtain ⟨h1, h2, h3, h4, h5, h6, h7⟩ := h
  obtain ⟨k1, k2, k3, k4, k5, k6, k7⟩ := k
  exact ⟨k1.trans h1, k2.trans h2, k3.trans h3, k4.trans h4, k5.trans h5, k6.trans h6, h7.trans k7⟩

theorem SameCore.trans {s t u : State} (h : SameCore s t) (k : SameCore t u) : SameCore s u := by
  obtain ⟨h0, h1, h2, h3, h4⟩ := h
  obtain ⟨k0, k1, k2, k3, k4⟩ := k
  exact ⟨SameFixed.trans h0 k0, k1.trans h1, k2.trans h2, k3.trans h3, k4.trans h4⟩

/-- What `Wrote8` reads of the state it starts from: registers, segment registers, the override, memory and the map. -/
theorem Wrote8.of_same {s s' t : State} {m : RM Reg8} {v : Byte} (h : Wrote8 s' t m v) (hr : s'.regs = s.regs)
    (hs : s'.sregs = s.sregs) (he : s'.eu = s.eu) (hm : s'.mem = s.mem) (hp : s'.plat.regions = s.plat.regions) :
    Wrote8 s t m v := by
  cases m <;>
    simpa [Wrote8, OnlyReg8, RegsSame, MemSame, MemAfter, State.byteAfter, Platform.kindAt, State.reg16, State.reg8,
      State.eaSeg, State.segValue, State.segReg, State.sreg, State.ea, hr, hs, he, hm, hp] using h

/-- What `Wrote16` reads of the state it starts from. -/
theorem Wrote16.of_same {s s' t : State} {m : RM Reg16} {v : Word} (h : Wrote16 s' t m v) (hr : s'.regs = s.regs)
    (hs : s'.sregs = s.sregs) (he : s'.eu = s.eu) (hm : s'.mem = s.mem) (hp : s'.plat.regions = s.plat.regions) :
    Wrote16 s t m v := by
  cases m <;>
    simpa [Wrote16, OnlyReg16, RegsSame, MemSame, MemAfter, State.byteAfter, Platform.kindAt, State.reg16,
      State.eaSeg, State.segValue, State.segReg, State.sreg, State.ea, hr, hs, he, hm, hp] using h

/-! ### Free flags -/

theorem drawFlags_regs (s : State) (l : List Flag) : (s.drawFlags l).regs = s.regs := by
  induction l generalizing s with
  | nil => rfl
  | cons n l ih => exact (ih _).trans rfl

theorem drawFlags_mem (s : State) (l : List Flag) : (s.drawFlags l).mem = s.mem := by
  induction l generalizing s with
  | nil => rfl
  | cons n l ih => exact (ih _).trans rfl

theorem sameCore_drawFlags (s : State) (l : List Flag) : SameCore s (s.drawFlags l) := by
  induction l generalizing s with
  | nil => exact (ReadOnly.refl s).sameCore
  | cons n l ih =>
    exact SameCore.trans ⟨⟨rfl, rfl, rfl, rfl, rfl, rfl, List.prefix_refl _⟩, rfl, rfl, rfl, rfl⟩ (ih _)

/-- The flags of a binary operation, AF free for the logic operations (42_logic_shift.md R600). -/
theorem aluFlags_flags {w : Nat} (s : State) (op : AluOp) (a b : BitVec w) :
    ∃ x, (s.aluFlags op a b).flags =
      if op.drawsAf then { op.flags s.flags a b with af := x } else op.flags s.flags a b := by
  refine ⟨Config.freeBit s.draws, ?_⟩
  simp only [State.aluFlags]
  cases op <;> rfl

theorem aluFlags_same {w : Nat} (s : State) (op : AluOp) (a b : BitVec w) :
    SameCore s (s.aluFlags op a b) ∧ (s.aluFlags op a b).regs = s.regs ∧ (s.aluFlags op a b).mem = s.mem ∧
      (s.aluFlags op a b).plat = s.plat := by
  cases op <;> exact ⟨⟨⟨rfl, rfl, rfl, rfl, rfl, rfl, List.prefix_refl _⟩, rfl, rfl, rfl, rfl⟩, rfl, rfl, rfl⟩

end Sys2Proof.Laws
end

