-- ==== Sys2Proof/Laws/Operands.lean ====
section
/-! SUPPORT. What the operand forms of the shared operations leave behind: the binary and unary ALU forms, and the shifts
(41_arithmetic.md R500, 42_logic_shift.md R607). -/

namespace Sys2Proof.Laws

open Sys2Proof Sys2Proof.Machine

theorem MemOk.of_mem {s t : State} (h : s.MemOk) (e : t.mem = s.mem) : t.MemOk := by simpa [State.MemOk, e] using h

/-- A state that differs in flags and draws alone. -/
theorem sameCore_setFlags (s : State) (f : Flags) : SameCore s (s.setFlags f) :=
  ⟨⟨rfl, rfl, rfl, rfl, rfl, rfl, List.prefix_refl _⟩, rfl, rfl, rfl, rfl⟩

theorem sameCore_setReg16 (s : State) (r : Reg16) (v : Word) : SameCore s (s.setReg16 r v) :=
  ⟨⟨rfl, rfl, rfl, rfl, rfl, rfl, List.prefix_refl _⟩, rfl, rfl, rfl, rfl⟩

theorem sameCore_drawFlag (s : State) (n : Flag) : SameCore s (s.drawFlag n) :=
  ⟨⟨rfl, rfl, rfl, rfl, rfl, rfl, List.prefix_refl _⟩, rfl, rfl, rfl, rfl⟩

/-- An r/m byte operand written after steps that touched neither registers nor memory. -/
theorem wrote8_after {s u : State} (h : s.MemOk) (c : SameCore s u) (hr : u.regs = s.regs) (hm : u.mem = s.mem)
    (m : RM Reg8) (v : Byte) : Wrote8 s (u.writeRM8 m v) m v :=
  Wrote8.of_same (wrote8_writeRM8 (MemOk.of_mem h hm) m v) hr c.2.1 c.2.2.2.1 hm c.1.2.2.2.2.1

/-- An r/m word operand written after steps that touched neither registers nor memory. -/
theorem wrote16_after {s u : State} (h : s.MemOk) (c : SameCore s u) (hr : u.regs = s.regs) (hm : u.mem = s.mem)
    (m : RM Reg16) (v : Word) : Wrote16 s (u.writeRM16 m v) m v :=
  Wrote16.of_same (wrote16_writeRM16 (MemOk.of_mem h hm) m v) hr c.2.1 c.2.2.2.1 hm c.1.2.2.2.2.1

theorem wroteNothing_of {s t : State} (hr : t.regs = s.regs) (hm : t.mem = s.mem) : WroteNothing s t :=
  ⟨fun q => by simp [State.reg16, hr], fun a => by rw [hm]⟩

/-- The write of a binary operation's result, or none, after steps that touched neither registers nor memory. -/
theorem aluDone8_of {s u : State} {op : AluOp} {m : RM Reg8} {a b : Byte} (h : s.MemOk) (c : SameCore s u)
    (hr : u.regs = s.regs) (hm : u.mem = s.mem) (hf : u.flags = s.flags) :
    AluDone8 s (if op.writes then (u.aluFlags op a b).writeRM8 m (op.result a b s.flags.cf) else u.aluFlags op a b) op m
      a b := by
  obtain ⟨k, kr, km, -⟩ := aluFlags_same u op a b
  obtain ⟨x, hx⟩ := aluFlags_flags u op a b
  rw [hf] at hx
  have sc := SameCore.trans c k
  split
  · rename_i hw
    refine ⟨SameCore.trans sc (sameCore_writeRM8 ..), ⟨x, (flags_writeRM8 ..).trans hx⟩, ?_⟩
    rw [if_pos hw]
    exact wrote8_after h sc (kr.trans hr) (km.trans hm) m _
  · rename_i hw
    refine ⟨sc, ⟨x, hx⟩, ?_⟩
    rw [if_neg hw]
    exact wroteNothing_of (kr.trans hr) (km.trans hm)

theorem aluDone16_of {s u : State} {op : AluOp} {m : RM Reg16} {a b : Word} (h : s.MemOk) (c : SameCore s u)
    (hr : u.regs = s.regs) (hm : u.mem = s.mem) (hf : u.flags = s.flags) :
    AluDone16 s (if op.writes then (u.aluFlags op a b).writeRM16 m (op.result a b s.flags.cf) else u.aluFlags op a b)
      op m a b := by
  obtain ⟨k, kr, km, -⟩ := aluFlags_same u op a b
  obtain ⟨x, hx⟩ := aluFlags_flags u op a b
  rw [hf] at hx
  have sc := SameCore.trans c k
  split
  · rename_i hw
    refine ⟨SameCore.trans sc (sameCore_writeRM16 ..), ⟨x, (flags_writeRM16 ..).trans hx⟩, ?_⟩
    rw [if_pos hw]
    exact wrote16_after h sc (kr.trans hr) (km.trans hm) m _
  · rename_i hw
    refine ⟨sc, ⟨x, hx⟩, ?_⟩
    rw [if_neg hw]
    exact wroteNothing_of (kr.trans hr) (km.trans hm)

theorem aluRM8_done (op : AluOp) (m : RM Reg8) (src : State → Byte) {s : State} (h : s.MemOk) {b : Byte}
    (hb : src (s.readRM8 m).2 = b) : AluDone8 s (aluRM8 op m src s) op m (s.readRM8 m).1 b := by
  have ro := readOnly_readRM8 s m
  subst hb
  exact aluDone8_of h ro.sameCore ro.regs ro.mem ro.flags

theorem aluRM16_done (op : AluOp) (m : RM Reg16) (src : State → Word) {s : State} (h : s.MemOk) {b : Word}
    (hb : src (s.readRM16 m).2 = b) : AluDone16 s (aluRM16 op m src s) op m (s.readRM16 m).1 b := by
  have ro := readOnly_readRM16 s m
  subst hb
  exact aluDone16_of h ro.sameCore ro.regs ro.mem ro.flags

theorem aluGbEb_done (op : AluOp) (g : Reg8) (m : RM Reg8) {s : State} (h : s.MemOk) :
    AluDone8 s (aluGbEb op g m s) op (.reg g) (s.reg8 g) (s.readRM8 m).1 := by
  have ro := readOnly_readRM8 s m
  have e : (s.readRM8 m).2.reg8 g = s.reg8 g := by simp [State.reg8, ro.regs]
  simp only [aluGbEb, e]
  exact aluDone8_of (m := .reg g) h ro.sameCore ro.regs ro.mem ro.flags

theorem aluGwEw_done (op : AluOp) (g : Reg16) (m : RM Reg16) {s : State} (h : s.MemOk) :
    AluDone16 s (aluGwEw op g m s) op (.reg g) (s.reg16 g) (s.readRM16 m).1 := by
  have ro := readOnly_readRM16 s m
  have e : (s.readRM16 m).2.reg16 g = s.reg16 g := by simp [State.reg16, ro.regs]
  simp only [aluGwEw, e]
  exact aluDone16_of (m := .reg g) h ro.sameCore ro.regs ro.mem ro.flags

theorem unaryRM8_done (r : Byte → Byte) (f : Flags → Byte → Flags) (m : RM Reg8) {s : State} (h : s.MemOk) :
    SameCore s (unaryRM8 r f m s) ∧ Wrote8 s (unaryRM8 r f m s) m (r (s.readRM8 m).1) ∧
      (unaryRM8 r f m s).flags = f s.flags (s.readRM8 m).1 := by
  have ro := readOnly_readRM8 s m
  have c := SameCore.trans ro.sameCore (sameCore_setFlags _ (f (s.readRM8 m).2.flags (s.readRM8 m).1))
  exact ⟨SameCore.trans c (sameCore_writeRM8 ..), wrote8_after h c ro.regs ro.mem m _,
    by simp [unaryRM8, flags_writeRM8, ro.flags]⟩

theorem unaryRM16_done (r : Word → Word) (f : Flags → Word → Flags) (m : RM Reg16) {s : State} (h : s.MemOk) :
    SameCore s (unaryRM16 r f m s) ∧ Wrote16 s (unaryRM16 r f m s) m (r (s.readRM16 m).1) ∧
      (unaryRM16 r f m s).flags = f s.flags (s.readRM16 m).1 := by
  have ro := readOnly_readRM16 s m
  have c := SameCore.trans ro.sameCore (sameCore_setFlags _ (f (s.readRM16 m).2.flags (s.readRM16 m).1))
  exact ⟨SameCore.trans c (sameCore_writeRM16 ..), wrote16_after h c ro.regs ro.mem m _,
    by simp [unaryRM16, flags_writeRM16, ro.flags]⟩

/-- The flags of a shift or rotate by a count other than 0 change flags and draws alone. -/
theorem shiftFlags_same {w : Nat} (s : State) (op : ShiftOp) (n : Nat) (v : BitVec w) :
    SameCore s (s.shiftFlags op n v) ∧ (s.shiftFlags op n v).regs = s.regs ∧ (s.shiftFlags op n v).mem = s.mem := by
  unfold State.shiftFlags
  cases op <;> by_cases hn : n = 1 <;> simp only [hn, if_true, if_false, ShiftOp.isShift, Bool.false_eq_true] <;>
    exact ⟨⟨⟨rfl, rfl, rfl, rfl, rfl, rfl, List.prefix_refl _⟩, rfl, rfl, rfl, rfl⟩, rfl, rfl⟩

theorem shiftFlags_flags {w : Nat} {s u : State} (hf : u.flags = s.flags) (op : ShiftOp) (n : Nat) (v : BitVec w)
    {t : State} (ht : t.flags = (u.shiftFlags op n v).flags) : ShiftFlags s t op n v := by
  by_cases hn : n = 1
  · subst hn
    refine ⟨true, Config.freeBit u.draws, ?_⟩
    cases op <;> simp [ht, State.shiftFlags, ShiftOp.isShift, hf, szp]
  · refine ⟨Config.freeBit u.draws, Config.freeBit (u.draws + 1), ?_⟩
    cases op <;> simp [ht, State.shiftFlags, ShiftOp.isShift, hf, szp, hn]

theorem shiftRM8_done (op : ShiftOp) (n : Nat) (m : RM Reg8) {s : State} (h : s.MemOk) :
    ShiftDone8 s (shiftRM8 op n m s) op n m := by
  have ro := readOnly_readRM8 s m
  obtain ⟨k, kr, km⟩ := shiftFlags_same (s.readRM8 m).2 op n (s.readRM8 m).1
  have c := SameCore.trans ro.sameCore k
  by_cases hn : n = 0
  · simp only [shiftRM8, hn, if_true, ShiftDone8]
    exact ⟨ro.sameCore, wroteNothing_of ro.regs ro.mem, ro.flags⟩
  · simp only [shiftRM8, if_neg hn, ShiftDone8]
    exact ⟨SameCore.trans c (sameCore_writeRM8 ..), wrote8_after h c (kr.trans ro.regs) (km.trans ro.mem) m _,
      shiftFlags_flags ro.flags op n _ (flags_writeRM8 ..)⟩

theorem shiftRM16_done (op : ShiftOp) (n : Nat) (m : RM Reg16) {s : State} (h : s.MemOk) :
    ShiftDone16 s (shiftRM16 op n m s) op n m := by
  have ro := readOnly_readRM16 s m
  obtain ⟨k, kr, km⟩ := shiftFlags_same (s.readRM16 m).2 op n (s.readRM16 m).1
  have c := SameCore.trans ro.sameCore k
  by_cases hn : n = 0
  · simp only [shiftRM16, hn, if_true, ShiftDone16]
    exact ⟨ro.sameCore, wroteNothing_of ro.regs ro.mem, ro.flags⟩
  · simp only [shiftRM16, if_neg hn, ShiftDone16]
    exact ⟨SameCore.trans c (sameCore_writeRM16 ..), wrote16_after h c (kr.trans ro.regs) (km.trans ro.mem) m _,
      shiftFlags_flags ro.flags op n _ (flags_writeRM16 ..)⟩

/-- A byte register written after a read. -/
theorem moved8_reg {s u : State} (r : ReadOnly s u) (g : Reg8) (v : Byte) : Moved8 s (u.setReg8 g v) (.reg g) v := by
  refine ⟨SameCore.trans r.sameCore (sameCore_writeRM8 u (.reg g) v), r.flags, ?_⟩
  have := onlyReg8_set u g v
  simp only [OnlyReg8, State.reg8, r.regs] at this
  exact ⟨this, fun a => by simp [r.mem]⟩

/-- A word register written after a read. -/
theorem moved16_reg {s u : State} (r : ReadOnly s u) (g : Reg16) (v : Word) : Moved16 s (u.setReg16 g v) (.reg g) v := by
  refine ⟨SameCore.trans r.sameCore (sameCore_writeRM16 u (.reg g) v), r.flags, ?_⟩
  have := onlyReg16_set u g v
  simp only [OnlyReg16, State.reg16, r.regs] at this
  exact ⟨this, fun a => by simp [r.mem]⟩

/-- What a push leaves behind, from a state that a read has left. -/
theorem pushed_after {s u : State} (h : s.MemOk) (r : ReadOnly s u) (v : Word) : Pushed s (u.push v) v := by
  refine ⟨SameCore.trans r.sameCore
    ⟨⟨rfl, rfl, rfl, rfl, rfl, rfl, prefix_writeW (u.setReg16 ..) _ _ _⟩, rfl, rfl, rfl, rfl⟩, r.flags, ?_, ?_⟩
  · have := onlyReg16_set u .sp (u.regs.sp - 2)
    simpa [OnlySp, OnlyReg16, State.reg16, State.push, r.regs] using this
  · have := memAfter_push (MemOk.of_mem h r.mem) v
    rw [r.sregs, r.regs] at this
    exact MemAfter.of_same this r.mem r.regions

/-- What a pop leaves behind: it only reads, then SP moves up by 2. -/
theorem pop_eq (s : State) :
    s.pop = (s.top, (s.readW s.sregs.ss s.regs.sp).2.setReg16 .sp (s.regs.sp + 2)) := by
  simp only [State.pop, State.top, (readOnly_readW s s.sregs.ss s.regs.sp).regs]

theorem flags_pop (s : State) : s.pop.2.flags = s.flags := (readOnly_readW ..).flags
theorem mem_pop (s : State) : s.pop.2.mem = s.mem := (readOnly_readW ..).mem
theorem sregs_pop (s : State) : s.pop.2.sregs = s.sregs := (readOnly_readW ..).sregs
theorem regs_pop (s : State) : s.pop.2.regs = { s.regs with sp := s.regs.sp + 2 } := by
  simp [pop_eq, (readOnly_readW s s.sregs.ss s.regs.sp).regs, Regs.set]
theorem sameCore_pop (s : State) : SameCore s s.pop.2 :=
  SameCore.trans (readOnly_readW ..).sameCore (sameCore_setReg16 ..)

end Sys2Proof.Laws
end

