-- ==== Sys2Proof/Laws/Interrupts.lean ====
section
/-! SUPPORT. What a control transfer and an interrupt entry leave behind (44_control_transfer.md R800, 60_exceptions.md
R1001, R1010 to R1012). -/

namespace Sys2Proof.Laws

open Sys2Proof Sys2Proof.Machine

theorem flushed_jump (s : State) (ip : Word) : (s.jump ip).Flushed := ⟨rfl, rfl, rfl, rfl⟩

/-- A jump after steps that only read. -/
theorem jumped_after {s u : State} (r : ReadOnly s u) (cs ip : Word) : Jumped s (u.jumpFar cs ip) cs ip :=
  ⟨r.sameCore.1, rfl, by simp [State.jumpFar, State.jump, State.setSReg, SRegs.set, r.sregs], ⟨rfl, rfl, rfl, rfl⟩,
    r.eu, r.flags⟩

/-- FLAGS pushed and IF and TF cleared, the first part of an interrupt entry. -/
def pushedFlags (s : State) : State := (s.push s.flags.toWord).setFlags { s.flags with ifl := false, tf := false }

theorem pushFrame_eq (s : State) (ret : Word) :
    s.pushFrame ret = ((pushedFlags s).push s.sregs.cs).push ret := by
  simp only [State.pushFrame, pushedFlags, push_flags, setFlags_sregs, push_sregs]

/-- The three pushes of an interrupt entry. -/
theorem pushFrame_regs (s : State) (ret : Word) : (s.pushFrame ret).regs = { s.regs with sp := s.regs.sp - 6 } := by
  have e : s.regs.sp - 2 - 2 - 2 = s.regs.sp - 6 := by bv_omega
  rw [pushFrame_eq, push_regs, push_regs, ← e]
  rfl

theorem pushFrame_flags (s : State) (ret : Word) :
    (s.pushFrame ret).flags = { s.flags with ifl := false, tf := false } := by
  rw [pushFrame_eq, push_flags, push_flags]
  rfl

theorem pushFrame_sregs (s : State) (ret : Word) : (s.pushFrame ret).sregs = s.sregs := by
  rw [pushFrame_eq, push_sregs, push_sregs]
  rfl

theorem pushFrame_eu (s : State) (ret : Word) : (s.pushFrame ret).eu = s.eu := by
  rw [pushFrame_eq, push_eu, push_eu]
  rfl

theorem pushFrame_plat (s : State) (ret : Word) : (s.pushFrame ret).plat = s.plat := by
  rw [pushFrame_eq, push_plat, push_plat]
  rfl

theorem prefix_push (s : State) (v : Word) : s.bus <+: (s.push v).bus := prefix_writeW (s.setReg16 ..) _ _ _

theorem sameFixed_push (s : State) (v : Word) : SameFixed s (s.push v) :=
  ⟨rfl, rfl, rfl, rfl, rfl, rfl, prefix_push s v⟩

theorem sameFixed_pushFrame (s : State) (ret : Word) : SameFixed s (s.pushFrame ret) := by
  rw [pushFrame_eq]
  exact SameFixed.trans (SameFixed.trans (sameFixed_push s s.flags.toWord) (t := pushedFlags s)
    (sameFixed_push (pushedFlags s) s.sregs.cs)) (sameFixed_push _ ret)

/-- A push after stores. -/
theorem memAfter_push_after {s u : State} {l : List (LinAddr × Byte)} (hm : u.MemOk) (h : MemAfter s u l)
    (hp : u.plat.regions = s.plat.regions) (v : Word) :
    (u.push v).MemOk ∧ MemAfter s (u.push v) (l ++ wordStores u.sregs.ss (u.regs.sp - 2) v) :=
  ⟨memOk_push hm v, MemAfter.append h (memAfter_push hm v) hp⟩

/-- The frame in memory: FLAGS, CS and the return offset, downward from SP. -/
theorem memAfter_pushFrame {s : State} (h : s.MemOk) (ret : Word) :
    (s.pushFrame ret).MemOk ∧ MemAfter s (s.pushFrame ret) (frameStores s ret) := by
  have e : s.regs.sp - 2 - 2 = s.regs.sp - 4 := by bv_omega
  have e' : s.regs.sp - 2 - 2 - 2 = s.regs.sp - 6 := by bv_omega
  have h1 : MemAfter s (pushedFlags s) _ := MemAfter.to_same (memAfter_push h s.flags.toWord) rfl
  have k1 : (pushedFlags s).MemOk := memOk_push h s.flags.toWord
  obtain ⟨k2, h2⟩ := memAfter_push_after k1 h1 rfl s.sregs.cs
  obtain ⟨k3, h3⟩ := memAfter_push_after k2 h2 rfl ret
  rw [pushFrame_eq, frameStores, ← e', ← e]
  exact ⟨k3, h3⟩

/-- The jump and the latches that end an interrupt entry, from a state in which the frame is pushed. -/
theorem entered_of {s u : State} {n : Byte} {ret : Word} {v : Word × Word} (hf : SameFixed s u)
    (hr : u.regs = { s.regs with sp := s.regs.sp - 6 }) (hm : MemAfter s u (frameStores s ret))
    (hg : u.flags = { s.flags with ifl := false, tf := false }) (hs : u.sregs = s.sregs) (hv : vectorRead s n ret = v)
    (e : Eu) : Entered s { u.jumpFar v.1 v.2 with eu := e } n ret := by
  subst hv
  refine ⟨hf, ⟨?_, fun q hq => ?_⟩, MemAfter.to_same hm rfl, hg, ?_, rfl, ⟨rfl, rfl, rfl, rfl⟩⟩
  · simp [State.reg16, hr, Regs.get]
  · cases q <;> first | exact absurd rfl hq | simp [State.reg16, hr, Regs.get]
  · simp [hs, SRegs.set]

/-- An interrupt entry, whatever INT_VECTOR_ORDER says. -/
theorem entered_enterInterrupt {s : State} (h : s.MemOk) (n : Byte) (ret : Word) :
    Entered s (s.enterInterrupt n ret) n ret := by
  cases hv : s.cfg.intVectorOrder with
  | afterPushes =>
    have ro := readOnly_readVector (s.pushFrame ret) n
    simp only [State.enterInterrupt, hv]
    exact entered_of (SameFixed.trans (sameFixed_pushFrame s ret) ro.sameCore.1) (ro.regs.trans (pushFrame_regs ..))
      (MemAfter.to_same (memAfter_pushFrame h ret).2 ro.mem) (ro.flags.trans (pushFrame_flags ..))
      (ro.sregs.trans (pushFrame_sregs ..)) (by simp only [vectorRead, hv]) _
  | beforePushes =>
    have ro := readOnly_readVector s n
    have hm := (memAfter_pushFrame (MemOk.of_mem h ro.mem) ret).2
    simp only [frameStores, ro.regs, ro.sregs, ro.flags] at hm
    simp only [State.enterInterrupt, hv]
    exact entered_of (SameFixed.trans ro.sameCore.1 (sameFixed_pushFrame ..)) (by rw [pushFrame_regs, ro.regs])
      (MemAfter.of_same hm ro.mem ro.regions) (by rw [pushFrame_flags, ro.flags])
      (by rw [pushFrame_sregs, ro.sregs]) (by simp only [vectorRead, hv]) _

theorem eu_enterInterrupt (s : State) (n : Byte) (ret : Word) :
    (s.enterInterrupt n ret).eu = { s.eu with rep := none, waiting := false, halted := false } := by
  cases hv : s.cfg.intVectorOrder <;>
    simp [State.enterInterrupt, hv, State.jumpFar, State.jump, State.setSReg, (readOnly_readVector _ n).eu,
      pushFrame_eu]

/-- A software interrupt: the entry, and the latches. -/
theorem entered_softInterrupt {s : State} (h : s.MemOk) (n : Byte) :
    Entered s (s.softInterrupt n) n s.ip ∧
      EntryLatches s (s.softInterrupt n) (s.eu.trapArmed && s.cfg.trapAfterSoftInt) s.eu.lockActive := by
  have e := entered_enterInterrupt h n s.ip
  refine ⟨e, ?_⟩
  simp only [EntryLatches, State.softInterrupt, eu_enterInterrupt, e.1.1]

/-- An entry at a boundary: the entry, made with LOCK released, and the latches. -/
theorem entered_boundaryInterrupt {s : State} (h : s.MemOk) (n : Byte) :
    Entered s.releaseLock (s.boundaryInterrupt n) n s.returnIp ∧
      EntryLatches s (s.boundaryInterrupt n) false false := by
  refine ⟨entered_enterInterrupt (s := s.releaseLock) h n s.returnIp, ?_⟩
  simp only [EntryLatches, State.boundaryInterrupt, eu_enterInterrupt, releaseLock_eu]

/-! ### The interrupts of a boundary (60_exceptions.md R1051) -/

/-- Nothing is in progress after an interrupt entry at a boundary. -/
def Settled (t : State) : Prop :=
  t.Flushed ∧ t.eu.halted = false ∧ t.eu.waiting = false ∧ t.eu.rep = none ∧ t.eu.lockActive = false ∧
    t.eu.trapArmed = false

theorem flushed_enterInterrupt (s : State) (n : Byte) (ret : Word) : (s.enterInterrupt n ret).Flushed := by
  unfold State.enterInterrupt
  split <;> exact ⟨rfl, rfl, rfl, rfl⟩

theorem settled_boundaryInterrupt (s : State) (n : Byte) : Settled (s.boundaryInterrupt n) := by
  refine ⟨flushed_enterInterrupt s.releaseLock n s.returnIp, ?_⟩
  simp [State.boundaryInterrupt, eu_enterInterrupt, State.releaseLock]

theorem settled_take (s : State) : ∀ e : Entry, Settled (s.take e)
  | .nmi => settled_boundaryInterrupt _ 2
  | .intr v => settled_boundaryInterrupt _ v
  | .trap => settled_boundaryInterrupt _ 1

/-- The boundary check has taken an interrupt. -/
theorem boundaryCheck_taken {s c : State} (h : s.boundaryCheck = (true, c)) : Settled c := by
  obtain ⟨hne, rfl⟩ := Prod.mk.inj h
  obtain ⟨l, e, hl⟩ : ∃ l e, s.entriesDue = l ++ [e] :=
    ⟨_, _, (List.dropLast_append_getLast (by rintro h0; simp [h0] at hne)).symm⟩
  simp only [hl, List.foldl_append]
  exact settled_take _ e

/-- The end of a step that has taken an interrupt: the queue is empty, so no byte of it is read again. -/
theorem flushed_endStep {s : State} (h : s.Flushed) : s.endStep.Flushed := by
  obtain ⟨h1, h2, h3, h4⟩ := h
  have e : s.biu.held = [] := by simp [Biu.held, h1, h2]
  refine ⟨?_, ?_, h3, h4⟩ <;> cases hm : s.pins.refetch <;>
    simp [State.endStep, State.refetch, e, hm, State.refetchBytes, Biu.setHeld]

end Sys2Proof.Laws
end

