-- ==== Sys2Proof/Laws/PerInstr.lean ====
section
/-! SUPPORT. Decoding the bytes of an instruction gives it back, one lemma per constructor of `Instr` (30_encoding.md
R300 to R316): the family RoundTrip of LAWS.json. -/

namespace Sys2Proof.Laws.RoundTrip

open Sys2Proof

/-- The bytes of a well-formed instruction decode to it, and to nothing more. -/
def Statement (i : Instr) : Prop := i.wf = true → ∀ rest, decode (encode i ++ rest) = .ok (i, rest)

theorem addEbGb (m : RM Reg8) (g : Reg8) : Statement (.addEbGb m g) :=
  fun h rest => roundTrip_ebGb rfl (fun _ => rfl) m g h rest
theorem addEwGw (m : RM Reg16) (g : Reg16) : Statement (.addEwGw m g) :=
  fun h rest => roundTrip_ewGw rfl (fun _ => rfl) m g h rest
theorem addGbEb (g : Reg8) (m : RM Reg8) : Statement (.addGbEb g m) :=
  fun h rest => roundTrip_gbEb rfl (fun _ => rfl) g m h rest
theorem addGwEw (g : Reg16) (m : RM Reg16) : Statement (.addGwEw g m) :=
  fun h rest => roundTrip_gwEw rfl (fun _ => rfl) g m h rest
theorem addALIb (imm : Byte) : Statement (.addALIb imm) := fun _ _ => rfl
theorem addAXIw (imm : Word) : Statement (.addAXIw imm) := fun _ rest => roundTrip_iw rfl imm rest
theorem orEbGb (m : RM Reg8) (g : Reg8) : Statement (.orEbGb m g) :=
  fun h rest => roundTrip_ebGb rfl (fun _ => rfl) m g h rest
theorem orEwGw (m : RM Reg16) (g : Reg16) : Statement (.orEwGw m g) :=
  fun h rest => roundTrip_ewGw rfl (fun _ => rfl) m g h rest
theorem orGbEb (g : Reg8) (m : RM Reg8) : Statement (.orGbEb g m) :=
  fun h rest => roundTrip_gbEb rfl (fun _ => rfl) g m h rest
theorem orGwEw (g : Reg16) (m : RM Reg16) : Statement (.orGwEw g m) :=
  fun h rest => roundTrip_gwEw rfl (fun _ => rfl) g m h rest
theorem orALIb (imm : Byte) : Statement (.orALIb imm) := fun _ _ => rfl
theorem orAXIw (imm : Word) : Statement (.orAXIw imm) := fun _ rest => roundTrip_iw rfl imm rest
theorem adcEbGb (m : RM Reg8) (g : Reg8) : Statement (.adcEbGb m g) :=
  fun h rest => roundTrip_ebGb rfl (fun _ => rfl) m g h rest
theorem adcEwGw (m : RM Reg16) (g : Reg16) : Statement (.adcEwGw m g) :=
  fun h rest => roundTrip_ewGw rfl (fun _ => rfl) m g h rest
theorem adcGbEb (g : Reg8) (m : RM Reg8) : Statement (.adcGbEb g m) :=
  fun h rest => roundTrip_gbEb rfl (fun _ => rfl) g m h rest
theorem adcGwEw (g : Reg16) (m : RM Reg16) : Statement (.adcGwEw g m) :=
  fun h rest => roundTrip_gwEw rfl (fun _ => rfl) g m h rest
theorem adcALIb (imm : Byte) : Statement (.adcALIb imm) := fun _ _ => rfl
theorem adcAXIw (imm : Word) : Statement (.adcAXIw imm) := fun _ rest => roundTrip_iw rfl imm rest
theorem sbbEbGb (m : RM Reg8) (g : Reg8) : Statement (.sbbEbGb m g) :=
  fun h rest => roundTrip_ebGb rfl (fun _ => rfl) m g h rest
theorem sbbEwGw (m : RM Reg16) (g : Reg16) : Statement (.sbbEwGw m g) :=
  fun h rest => roundTrip_ewGw rfl (fun _ => rfl) m g h rest
theorem sbbGbEb (g : Reg8) (m : RM Reg8) : Statement (.sbbGbEb g m) :=
  fun h rest => roundTrip_gbEb rfl (fun _ => rfl) g m h rest
theorem sbbGwEw (g : Reg16) (m : RM Reg16) : Statement (.sbbGwEw g m) :=
  fun h rest => roundTrip_gwEw rfl (fun _ => rfl) g m h rest
theorem sbbALIb (imm : Byte) : Statement (.sbbALIb imm) := fun _ _ => rfl
theorem sbbAXIw (imm : Word) : Statement (.sbbAXIw imm) := fun _ rest => roundTrip_iw rfl imm rest
theorem andEbGb (m : RM Reg8) (g : Reg8) : Statement (.andEbGb m g) :=
  fun h rest => roundTrip_ebGb rfl (fun _ => rfl) m g h rest
theorem andEwGw (m : RM Reg16) (g : Reg16) : Statement (.andEwGw m g) :=
  fun h rest => roundTrip_ewGw rfl (fun _ => rfl) m g h rest
theorem andGbEb (g : Reg8) (m : RM Reg8) : Statement (.andGbEb g m) :=
  fun h rest => roundTrip_gbEb rfl (fun _ => rfl) g m h rest
theorem andGwEw (g : Reg16) (m : RM Reg16) : Statement (.andGwEw g m) :=
  fun h rest => roundTrip_gwEw rfl (fun _ => rfl) g m h rest
theorem andALIb (imm : Byte) : Statement (.andALIb imm) := fun _ _ => rfl
theorem andAXIw (imm : Word) : Statement (.andAXIw imm) := fun _ rest => roundTrip_iw rfl imm rest
theorem subEbGb (m : RM Reg8) (g : Reg8) : Statement (.subEbGb m g) :=
  fun h rest => roundTrip_ebGb rfl (fun _ => rfl) m g h rest
theorem subEwGw (m : RM Reg16) (g : Reg16) : Statement (.subEwGw m g) :=
  fun h rest => roundTrip_ewGw rfl (fun _ => rfl) m g h rest
theorem subGbEb (g : Reg8) (m : RM Reg8) : Statement (.subGbEb g m) :=
  fun h rest => roundTrip_gbEb rfl (fun _ => rfl) g m h rest
theorem subGwEw (g : Reg16) (m : RM Reg16) : Statement (.subGwEw g m) :=
  fun h rest => roundTrip_gwEw rfl (fun _ => rfl) g m h rest
theorem subALIb (imm : Byte) : Statement (.subALIb imm) := fun _ _ => rfl
theorem subAXIw (imm : Word) : Statement (.subAXIw imm) := fun _ rest => roundTrip_iw rfl imm rest
theorem xorEbGb (m : RM Reg8) (g : Reg8) : Statement (.xorEbGb m g) :=
  fun h rest => roundTrip_ebGb rfl (fun _ => rfl) m g h rest
theorem xorEwGw (m : RM Reg16) (g : Reg16) : Statement (.xorEwGw m g) :=
  fun h rest => roundTrip_ewGw rfl (fun _ => rfl) m g h rest
theorem xorGbEb (g : Reg8) (m : RM Reg8) : Statement (.xorGbEb g m) :=
  fun h rest => roundTrip_gbEb rfl (fun _ => rfl) g m h rest
theorem xorGwEw (g : Reg16) (m : RM Reg16) : Statement (.xorGwEw g m) :=
  fun h rest => roundTrip_gwEw rfl (fun _ => rfl) g m h rest
theorem xorALIb (imm : Byte) : Statement (.xorALIb imm) := fun _ _ => rfl
theorem xorAXIw (imm : Word) : Statement (.xorAXIw imm) := fun _ rest => roundTrip_iw rfl imm rest
theorem cmpEbGb (m : RM Reg8) (g : Reg8) : Statement (.cmpEbGb m g) :=
  fun h rest => roundTrip_ebGb rfl (fun _ => rfl) m g h rest
theorem cmpEwGw (m : RM Reg16) (g : Reg16) : Statement (.cmpEwGw m g) :=
  fun h rest => roundTrip_ewGw rfl (fun _ => rfl) m g h rest
theorem cmpGbEb (g : Reg8) (m : RM Reg8) : Statement (.cmpGbEb g m) :=
  fun h rest => roundTrip_gbEb rfl (fun _ => rfl) g m h rest
theorem cmpGwEw (g : Reg16) (m : RM Reg16) : Statement (.cmpGwEw g m) :=
  fun h rest => roundTrip_gwEw rfl (fun _ => rfl) g m h rest
theorem cmpALIb (imm : Byte) : Statement (.cmpALIb imm) := fun _ _ => rfl
theorem cmpAXIw (imm : Word) : Statement (.cmpAXIw imm) := fun _ rest => roundTrip_iw rfl imm rest
/-- The refused encodings, with all the bytes after the opcode byte. -/
theorem refused (op : Byte) (bytes : List Byte) : Statement (.refused op bytes) := by
  intro h' rest
  obtain ⟨h, hl⟩ : refusedEncoding op bytes.head? = true ∧ bytes.length = refusedLength op bytes.head? := by
    simpa [Instr.wf] using h'
  cases bytes with
  | nil =>
    have : op = 0x0F := by simpa [refusedEncoding] using h
    subst this
    rfl
  | cons b bs =>
    have hf : ∃ k, opForm op = .modrm k := by
      have := h
      simp only [refusedEncoding, List.head?_cons, Bool.or_eq_true, Bool.and_eq_true, beq_iff_eq] at this
      rcases this with (((((h | h) | h) | h) | h) | h) | h
      · obtain ⟨rfl, -⟩ := h; exact ⟨_, rfl⟩
      · obtain ⟨(rfl | rfl) | rfl, -⟩ := h <;> exact ⟨_, rfl⟩
      · obtain ⟨((rfl | rfl) | rfl) | rfl, -⟩ := h <;> exact ⟨_, rfl⟩
      · obtain ⟨rfl, -⟩ := h; exact ⟨_, rfl⟩
      · obtain ⟨rfl, -⟩ := h; exact ⟨_, rfl⟩
      · obtain ⟨⟨rfl, -⟩, -⟩ := h; exact ⟨_, rfl⟩
      · obtain ⟨rfl | rfl, -⟩ := h <;> exact ⟨_, rfl⟩
    obtain ⟨k, hk⟩ := hf
    have hh : refusedEncoding op (some b) = true := h
    have hl' : refusedLength op (some b) = (b :: bs).length := hl.symm
    have ht : List.take (b :: bs).length ((b :: bs) ++ rest) = b :: bs := List.take_left
    have hd : List.drop (b :: bs).length ((b :: bs) ++ rest) = rest := List.drop_left
    simp only [encode, decode, hk, decodeModRM, List.cons_append, hh, if_true, decodeRefused, List.head?_cons, hl']
    rw [← List.cons_append, ht, hd]
    simp
theorem joJb (rel : Byte) : Statement (.joJb rel) := fun _ _ => rfl
theorem jnoJb (rel : Byte) : Statement (.jnoJb rel) := fun _ _ => rfl
theorem jbJb (rel : Byte) : Statement (.jbJb rel) := fun _ _ => rfl
theorem jaeJb (rel : Byte) : Statement (.jaeJb rel) := fun _ _ => rfl
theorem jeJb (rel : Byte) : Statement (.jeJb rel) := fun _ _ => rfl
theorem jneJb (rel : Byte) : Statement (.jneJb rel) := fun _ _ => rfl
theorem jbeJb (rel : Byte) : Statement (.jbeJb rel) := fun _ _ => rfl
theorem jaJb (rel : Byte) : Statement (.jaJb rel) := fun _ _ => rfl
theorem jsJb (rel : Byte) : Statement (.jsJb rel) := fun _ _ => rfl
theorem jnsJb (rel : Byte) : Statement (.jnsJb rel) := fun _ _ => rfl
theorem jpJb (rel : Byte) : Statement (.jpJb rel) := fun _ _ => rfl
theorem jnpJb (rel : Byte) : Statement (.jnpJb rel) := fun _ _ => rfl
theorem jlJb (rel : Byte) : Statement (.jlJb rel) := fun _ _ => rfl
theorem jgeJb (rel : Byte) : Statement (.jgeJb rel) := fun _ _ => rfl
theorem jleJb (rel : Byte) : Statement (.jleJb rel) := fun _ _ => rfl
theorem jgJb (rel : Byte) : Statement (.jgJb rel) := fun _ _ => rfl
theorem addEbIb (m : RM Reg8) (imm : Byte) : Statement (.addEbIb m imm) := fun h rest =>
  roundTrip_grp8Ib (op := 0x80) 0 m .addEbIb rfl (fun b hb => by simp [refusedEncoding, hb]) h (fun _ => rfl)
    imm rest
theorem orEbIb (m : RM Reg8) (imm : Byte) : Statement (.orEbIb m imm) := fun h rest =>
  roundTrip_grp8Ib (op := 0x80) 1 m .orEbIb rfl (fun b hb => by simp [refusedEncoding, hb]) h (fun _ => rfl)
    imm rest
theorem adcEbIb (m : RM Reg8) (imm : Byte) : Statement (.adcEbIb m imm) := fun h rest =>
  roundTrip_grp8Ib (op := 0x80) 2 m .adcEbIb rfl (fun b hb => by simp [refusedEncoding, hb]) h (fun _ => rfl)
    imm rest
theorem sbbEbIb (m : RM Reg8) (imm : Byte) : Statement (.sbbEbIb m imm) := fun h rest =>
  roundTrip_grp8Ib (op := 0x80) 3 m .sbbEbIb rfl (fun b hb => by simp [refusedEncoding, hb]) h (fun _ => rfl)
    imm rest
theorem andEbIb (m : RM Reg8) (imm : Byte) : Statement (.andEbIb m imm) := fun h rest =>
  roundTrip_grp8Ib (op := 0x80) 4 m .andEbIb rfl (fun b hb => by simp [refusedEncoding, hb]) h (fun _ => rfl)
    imm rest
theorem subEbIb (m : RM Reg8) (imm : Byte) : Statement (.subEbIb m imm) := fun h rest =>
  roundTrip_grp8Ib (op := 0x80) 5 m .subEbIb rfl (fun b hb => by simp [refusedEncoding, hb]) h (fun _ => rfl)
    imm rest
theorem xorEbIb (m : RM Reg8) (imm : Byte) : Statement (.xorEbIb m imm) := fun h rest =>
  roundTrip_grp8Ib (op := 0x80) 6 m .xorEbIb rfl (fun b hb => by simp [refusedEncoding, hb]) h (fun _ => rfl)
    imm rest
theorem cmpEbIb (m : RM Reg8) (imm : Byte) : Statement (.cmpEbIb m imm) := fun h rest =>
  roundTrip_grp8Ib (op := 0x80) 7 m .cmpEbIb rfl (fun b hb => by simp [refusedEncoding, hb]) h (fun _ => rfl)
    imm rest
theorem addEwIw (m : RM Reg16) (imm : Word) : Statement (.addEwIw m imm) := fun h rest =>
  roundTrip_grp16Iw (op := 0x81) 0 m .addEwIw rfl (fun b hb => by simp [refusedEncoding, hb]) h (fun _ => rfl)
    imm rest
theorem orEwIw (m : RM Reg16) (imm : Word) : Statement (.orEwIw m imm) := fun h rest =>
  roundTrip_grp16Iw (op := 0x81) 1 m .orEwIw rfl (fun b hb => by simp [refusedEncoding, hb]) h (fun _ => rfl)
    imm rest
theorem adcEwIw (m : RM Reg16) (imm : Word) : Statement (.adcEwIw m imm) := fun h rest =>
  roundTrip_grp16Iw (op := 0x81) 2 m .adcEwIw rfl (fun b hb => by simp [refusedEncoding, hb]) h (fun _ => rfl)
    imm rest
theorem sbbEwIw (m : RM Reg16) (imm : Word) : Statement (.sbbEwIw m imm) := fun h rest =>
  roundTrip_grp16Iw (op := 0x81) 3 m .sbbEwIw rfl (fun b hb => by simp [refusedEncoding, hb]) h (fun _ => rfl)
    imm rest
theorem andEwIw (m : RM Reg16) (imm : Word) : Statement (.andEwIw m imm) := fun h rest =>
  roundTrip_grp16Iw (op := 0x81) 4 m .andEwIw rfl (fun b hb => by simp [refusedEncoding, hb]) h (fun _ => rfl)
    imm rest
theorem subEwIw (m : RM Reg16) (imm : Word) : Statement (.subEwIw m imm) := fun h rest =>
  roundTrip_grp16Iw (op := 0x81) 5 m .subEwIw rfl (fun b hb => by simp [refusedEncoding, hb]) h (fun _ => rfl)
    imm rest
theorem xorEwIw (m : RM Reg16) (imm : Word) : Statement (.xorEwIw m imm) := fun h rest =>
  roundTrip_grp16Iw (op := 0x81) 6 m .xorEwIw rfl (fun b hb => by simp [refusedEncoding, hb]) h (fun _ => rfl)
    imm rest
theorem cmpEwIw (m : RM Reg16) (imm : Word) : Statement (.cmpEwIw m imm) := fun h rest =>
  roundTrip_grp16Iw (op := 0x81) 7 m .cmpEwIw rfl (fun b hb => by simp [refusedEncoding, hb]) h (fun _ => rfl)
    imm rest
theorem addEwIbs (m : RM Reg16) (imm : Byte) : Statement (.addEwIbs m imm) := fun h rest =>
  roundTrip_grp16Ib (op := 0x83) 0 m .addEwIbs rfl (fun b hb => by simp [refusedEncoding, hb]) h (fun _ => rfl)
    imm rest
theorem orEwIbs (m : RM Reg16) (imm : Byte) : Statement (.orEwIbs m imm) := fun h rest =>
  roundTrip_grp16Ib (op := 0x83) 1 m .orEwIbs rfl (fun b hb => by simp [refusedEncoding, hb]) h (fun _ => rfl)
    imm rest
theorem adcEwIbs (m : RM Reg16) (imm : Byte) : Statement (.adcEwIbs m imm) := fun h rest =>
  roundTrip_grp16Ib (op := 0x83) 2 m .adcEwIbs rfl (fun b hb => by simp [refusedEncoding, hb]) h (fun _ => rfl)
    imm rest
theorem sbbEwIbs (m : RM Reg16) (imm : Byte) : Statement (.sbbEwIbs m imm) := fun h rest =>
  roundTrip_grp16Ib (op := 0x83) 3 m .sbbEwIbs rfl (fun b hb => by simp [refusedEncoding, hb]) h (fun _ => rfl)
    imm rest
theorem andEwIbs (m : RM Reg16) (imm : Byte) : Statement (.andEwIbs m imm) := fun h rest =>
  roundTrip_grp16Ib (op := 0x83) 4 m .andEwIbs rfl (fun b hb => by simp [refusedEncoding, hb]) h (fun _ => rfl)
    imm rest
theorem subEwIbs (m : RM Reg16) (imm : Byte) : Statement (.subEwIbs m imm) := fun h rest =>
  roundTrip_grp16Ib (op := 0x83) 5 m .subEwIbs rfl (fun b hb => by simp [refusedEncoding, hb]) h (fun _ => rfl)
    imm rest
theorem xorEwIbs (m : RM Reg16) (imm : Byte) : Statement (.xorEwIbs m imm) := fun h rest =>
  roundTrip_grp16Ib (op := 0x83) 6 m .xorEwIbs rfl (fun b hb => by simp [refusedEncoding, hb]) h (fun _ => rfl)
    imm rest
theorem cmpEwIbs (m : RM Reg16) (imm : Byte) : Statement (.cmpEwIbs m imm) := fun h rest =>
  roundTrip_grp16Ib (op := 0x83) 7 m .cmpEwIbs rfl (fun b hb => by simp [refusedEncoding, hb]) h (fun _ => rfl)
    imm rest
theorem testEbGb (m : RM Reg8) (g : Reg8) : Statement (.testEbGb m g) :=
  fun h rest => roundTrip_ebGb rfl (fun _ => rfl) m g h rest
theorem testEwGw (m : RM Reg16) (g : Reg16) : Statement (.testEwGw m g) :=
  fun h rest => roundTrip_ewGw rfl (fun _ => rfl) m g h rest
theorem xchgEbGb (m : RM Reg8) (g : Reg8) : Statement (.xchgEbGb m g) :=
  fun h rest => roundTrip_ebGb rfl (fun _ => rfl) m g h rest
theorem xchgEwGw (m : RM Reg16) (g : Reg16) : Statement (.xchgEwGw m g) :=
  fun h rest => roundTrip_ewGw rfl (fun _ => rfl) m g h rest
theorem movEbGb (m : RM Reg8) (g : Reg8) : Statement (.movEbGb m g) :=
  fun h rest => roundTrip_ebGb rfl (fun _ => rfl) m g h rest
theorem movEwGw (m : RM Reg16) (g : Reg16) : Statement (.movEwGw m g) :=
  fun h rest => roundTrip_ewGw rfl (fun _ => rfl) m g h rest
theorem movGbEb (g : Reg8) (m : RM Reg8) : Statement (.movGbEb g m) :=
  fun h rest => roundTrip_gbEb rfl (fun _ => rfl) g m h rest
theorem movGwEw (g : Reg16) (m : RM Reg16) : Statement (.movGwEw g m) :=
  fun h rest => roundTrip_gwEw rfl (fun _ => rfl) g m h rest
theorem movEwES (m : RM Reg16) : Statement (.movEwES m) := fun h rest =>
  roundTrip_grp16 (op := 0x8C) 0 m (fun e => .done (.movEwES e)) rfl (fun b hb => by simp [refusedEncoding, hb]) h (fun _ => rfl)
    rest
theorem movEwCS (m : RM Reg16) : Statement (.movEwCS m) := fun h rest =>
  roundTrip_grp16 (op := 0x8C) 1 m (fun e => .done (.movEwCS e)) rfl (fun b hb => by simp [refusedEncoding, hb]) h (fun _ => rfl)
    rest
theorem movEwSS (m : RM Reg16) : Statement (.movEwSS m) := fun h rest =>
  roundTrip_grp16 (op := 0x8C) 2 m (fun e => .done (.movEwSS e)) rfl (fun b hb => by simp [refusedEncoding, hb]) h (fun _ => rfl)
    rest
theorem movEwDS (m : RM Reg16) : Statement (.movEwDS m) := fun h rest =>
  roundTrip_grp16 (op := 0x8C) 3 m (fun e => .done (.movEwDS e)) rfl (fun b hb => by simp [refusedEncoding, hb]) h (fun _ => rfl)
    rest
theorem leaGwM (g : Reg16) (m : RM Reg16) : Statement (.leaGwM g m) :=
  fun h rest => roundTrip_gwEw rfl (fun _ => rfl) g m h rest
theorem movESEw (m : RM Reg16) : Statement (.movESEw m) := fun h rest =>
  roundTrip_grp16 (op := 0x8E) 0 m (fun e => .done (.movESEw e)) rfl (fun b hb => by simp [refusedEncoding, hb]) h (fun _ => rfl)
    rest
theorem movSSEw (m : RM Reg16) : Statement (.movSSEw m) := fun h rest =>
  roundTrip_grp16 (op := 0x8E) 2 m (fun e => .done (.movSSEw e)) rfl (fun b hb => by simp [refusedEncoding, hb]) h (fun _ => rfl)
    rest
theorem movDSEw (m : RM Reg16) : Statement (.movDSEw m) := fun h rest =>
  roundTrip_grp16 (op := 0x8E) 3 m (fun e => .done (.movDSEw e)) rfl (fun b hb => by simp [refusedEncoding, hb]) h (fun _ => rfl)
    rest
theorem popEw (m : RM Reg16) : Statement (.popEw m) := fun h rest =>
  roundTrip_grp16 (op := 0x8F) 0 m (fun e => .done (.popEw e)) rfl (fun b hb => by simp [refusedEncoding, hb]) h (fun _ => rfl)
    rest
theorem callAp (off : Word) (seg : Word) : Statement (.callAp off seg) := fun _ rest => roundTrip_far rfl off seg rest
theorem movALOb (off : Word) : Statement (.movALOb off) := fun _ rest => roundTrip_iw rfl off rest
theorem movAXOw (off : Word) : Statement (.movAXOw off) := fun _ rest => roundTrip_iw rfl off rest
theorem movObAL (off : Word) : Statement (.movObAL off) := fun _ rest => roundTrip_iw rfl off rest
theorem movOwAX (off : Word) : Statement (.movOwAX off) := fun _ rest => roundTrip_iw rfl off rest
theorem testALIb (imm : Byte) : Statement (.testALIb imm) := fun _ _ => rfl
theorem testAXIw (imm : Word) : Statement (.testAXIw imm) := fun _ rest => roundTrip_iw rfl imm rest
theorem movALIb (imm : Byte) : Statement (.movALIb imm) := fun _ _ => rfl
theorem movCLIb (imm : Byte) : Statement (.movCLIb imm) := fun _ _ => rfl
theorem movDLIb (imm : Byte) : Statement (.movDLIb imm) := fun _ _ => rfl
theorem movBLIb (imm : Byte) : Statement (.movBLIb imm) := fun _ _ => rfl
theorem movAHIb (imm : Byte) : Statement (.movAHIb imm) := fun _ _ => rfl
theorem movCHIb (imm : Byte) : Statement (.movCHIb imm) := fun _ _ => rfl
theorem movDHIb (imm : Byte) : Statement (.movDHIb imm) := fun _ _ => rfl
theorem movBHIb (imm : Byte) : Statement (.movBHIb imm) := fun _ _ => rfl
theorem movAXIw (imm : Word) : Statement (.movAXIw imm) := fun _ rest => roundTrip_iw rfl imm rest
theorem movCXIw (imm : Word) : Statement (.movCXIw imm) := fun _ rest => roundTrip_iw rfl imm rest
theorem movDXIw (imm : Word) : Statement (.movDXIw imm) := fun _ rest => roundTrip_iw rfl imm rest
theorem movBXIw (imm : Word) : Statement (.movBXIw imm) := fun _ rest => roundTrip_iw rfl imm rest
theorem movSPIw (imm : Word) : Statement (.movSPIw imm) := fun _ rest => roundTrip_iw rfl imm rest
theorem movBPIw (imm : Word) : Statement (.movBPIw imm) := fun _ rest => roundTrip_iw rfl imm rest
theorem movSIIw (imm : Word) : Statement (.movSIIw imm) := fun _ rest => roundTrip_iw rfl imm rest
theorem movDIIw (imm : Word) : Statement (.movDIIw imm) := fun _ rest => roundTrip_iw rfl imm rest
theorem retIw (imm : Word) : Statement (.retIw imm) := fun _ rest => roundTrip_iw rfl imm rest
theorem lesGwMp (g : Reg16) (a : EA) : Statement (.lesGwMp g a) := fun h rest =>
  roundTrip_gwMp rfl (fun b hb => by simpa [refusedEncoding] using hb) g a h rest
theorem ldsGwMp (g : Reg16) (a : EA) : Statement (.ldsGwMp g a) := fun h rest =>
  roundTrip_gwMp rfl (fun b hb => by simpa [refusedEncoding] using hb) g a h rest
theorem movEbIb (m : RM Reg8) (imm : Byte) : Statement (.movEbIb m imm) := fun h rest =>
  roundTrip_grp8Ib (op := 0xC6) 0 m .movEbIb rfl (fun b hb => by simp [refusedEncoding, hb]) h (fun _ => rfl)
    imm rest
theorem movEwIw (m : RM Reg16) (imm : Word) : Statement (.movEwIw m imm) := fun h rest =>
  roundTrip_grp16Iw (op := 0xC7) 0 m .movEwIw rfl (fun b hb => by simp [refusedEncoding, hb]) h (fun _ => rfl)
    imm rest
theorem retfIw (imm : Word) : Statement (.retfIw imm) := fun _ rest => roundTrip_iw rfl imm rest
theorem intIb (imm : Byte) : Statement (.intIb imm) := fun _ _ => rfl
theorem rolEb1 (m : RM Reg8) : Statement (.rolEb1 m) := fun h rest =>
  roundTrip_grp8 (op := 0xD0) 0 m (fun e => .done (.rolEb1 e)) rfl (fun b hb => by simp [refusedEncoding, hb]) h (fun _ => rfl)
    rest
theorem rorEb1 (m : RM Reg8) : Statement (.rorEb1 m) := fun h rest =>
  roundTrip_grp8 (op := 0xD0) 1 m (fun e => .done (.rorEb1 e)) rfl (fun b hb => by simp [refusedEncoding, hb]) h (fun _ => rfl)
    rest
theorem rclEb1 (m : RM Reg8) : Statement (.rclEb1 m) := fun h rest =>
  roundTrip_grp8 (op := 0xD0) 2 m (fun e => .done (.rclEb1 e)) rfl (fun b hb => by simp [refusedEncoding, hb]) h (fun _ => rfl)
    rest
theorem rcrEb1 (m : RM Reg8) : Statement (.rcrEb1 m) := fun h rest =>
  roundTrip_grp8 (op := 0xD0) 3 m (fun e => .done (.rcrEb1 e)) rfl (fun b hb => by simp [refusedEncoding, hb]) h (fun _ => rfl)
    rest
theorem shlEb1 (m : RM Reg8) : Statement (.shlEb1 m) := fun h rest =>
  roundTrip_grp8 (op := 0xD0) 4 m (fun e => .done (.shlEb1 e)) rfl (fun b hb => by simp [refusedEncoding, hb]) h (fun _ => rfl)
    rest
theorem shrEb1 (m : RM Reg8) : Statement (.shrEb1 m) := fun h rest =>
  roundTrip_grp8 (op := 0xD0) 5 m (fun e => .done (.shrEb1 e)) rfl (fun b hb => by simp [refusedEncoding, hb]) h (fun _ => rfl)
    rest
theorem sarEb1 (m : RM Reg8) : Statement (.sarEb1 m) := fun h rest =>
  roundTrip_grp8 (op := 0xD0) 7 m (fun e => .done (.sarEb1 e)) rfl (fun b hb => by simp [refusedEncoding, hb]) h (fun _ => rfl)
    rest
theorem rolEw1 (m : RM Reg16) : Statement (.rolEw1 m) := fun h rest =>
  roundTrip_grp16 (op := 0xD1) 0 m (fun e => .done (.rolEw1 e)) rfl (fun b hb => by simp [refusedEncoding, hb]) h (fun _ => rfl)
    rest
theorem rorEw1 (m : RM Reg16) : Statement (.rorEw1 m) := fun h rest =>
  roundTrip_grp16 (op := 0xD1) 1 m (fun e => .done (.rorEw1 e)) rfl (fun b hb => by simp [refusedEncoding, hb]) h (fun _ => rfl)
    rest
theorem rclEw1 (m : RM Reg16) : Statement (.rclEw1 m) := fun h rest =>
  roundTrip_grp16 (op := 0xD1) 2 m (fun e => .done (.rclEw1 e)) rfl (fun b hb => by simp [refusedEncoding, hb]) h (fun _ => rfl)
    rest
theorem rcrEw1 (m : RM Reg16) : Statement (.rcrEw1 m) := fun h rest =>
  roundTrip_grp16 (op := 0xD1) 3 m (fun e => .done (.rcrEw1 e)) rfl (fun b hb => by simp [refusedEncoding, hb]) h (fun _ => rfl)
    rest
theorem shlEw1 (m : RM Reg16) : Statement (.shlEw1 m) := fun h rest =>
  roundTrip_grp16 (op := 0xD1) 4 m (fun e => .done (.shlEw1 e)) rfl (fun b hb => by simp [refusedEncoding, hb]) h (fun _ => rfl)
    rest
theorem shrEw1 (m : RM Reg16) : Statement (.shrEw1 m) := fun h rest =>
  roundTrip_grp16 (op := 0xD1) 5 m (fun e => .done (.shrEw1 e)) rfl (fun b hb => by simp [refusedEncoding, hb]) h (fun _ => rfl)
    rest
theorem sarEw1 (m : RM Reg16) : Statement (.sarEw1 m) := fun h rest =>
  roundTrip_grp16 (op := 0xD1) 7 m (fun e => .done (.sarEw1 e)) rfl (fun b hb => by simp [refusedEncoding, hb]) h (fun _ => rfl)
    rest
theorem rolEbCL (m : RM Reg8) : Statement (.rolEbCL m) := fun h rest =>
  roundTrip_grp8 (op := 0xD2) 0 m (fun e => .done (.rolEbCL e)) rfl (fun b hb => by simp [refusedEncoding, hb]) h (fun _ => rfl)
    rest
theorem rorEbCL (m : RM Reg8) : Statement (.rorEbCL m) := fun h rest =>
  roundTrip_grp8 (op := 0xD2) 1 m (fun e => .done (.rorEbCL e)) rfl (fun b hb => by simp [refusedEncoding, hb]) h (fun _ => rfl)
    rest
theorem rclEbCL (m : RM Reg8) : Statement (.rclEbCL m) := fun h rest =>
  roundTrip_grp8 (op := 0xD2) 2 m (fun e => .done (.rclEbCL e)) rfl (fun b hb => by simp [refusedEncoding, hb]) h (fun _ => rfl)
    rest
theorem rcrEbCL (m : RM Reg8) : Statement (.rcrEbCL m) := fun h rest =>
  roundTrip_grp8 (op := 0xD2) 3 m (fun e => .done (.rcrEbCL e)) rfl (fun b hb => by simp [refusedEncoding, hb]) h (fun _ => rfl)
    rest
theorem shlEbCL (m : RM Reg8) : Statement (.shlEbCL m) := fun h rest =>
  roundTrip_grp8 (op := 0xD2) 4 m (fun e => .done (.shlEbCL e)) rfl (fun b hb => by simp [refusedEncoding, hb]) h (fun _ => rfl)
    rest
theorem shrEbCL (m : RM Reg8) : Statement (.shrEbCL m) := fun h rest =>
  roundTrip_grp8 (op := 0xD2) 5 m (fun e => .done (.shrEbCL e)) rfl (fun b hb => by simp [refusedEncoding, hb]) h (fun _ => rfl)
    rest
theorem sarEbCL (m : RM Reg8) : Statement (.sarEbCL m) := fun h rest =>
  roundTrip_grp8 (op := 0xD2) 7 m (fun e => .done (.sarEbCL e)) rfl (fun b hb => by simp [refusedEncoding, hb]) h (fun _ => rfl)
    rest
theorem rolEwCL (m : RM Reg16) : Statement (.rolEwCL m) := fun h rest =>
  roundTrip_grp16 (op := 0xD3) 0 m (fun e => .done (.rolEwCL e)) rfl (fun b hb => by simp [refusedEncoding, hb]) h (fun _ => rfl)
    rest
theorem rorEwCL (m : RM Reg16) : Statement (.rorEwCL m) := fun h rest =>
  roundTrip_grp16 (op := 0xD3) 1 m (fun e => .done (.rorEwCL e)) rfl (fun b hb => by simp [refusedEncoding, hb]) h (fun _ => rfl)
    rest
theorem rclEwCL (m : RM Reg16) : Statement (.rclEwCL m) := fun h rest =>
  roundTrip_grp16 (op := 0xD3) 2 m (fun e => .done (.rclEwCL e)) rfl (fun b hb => by simp [refusedEncoding, hb]) h (fun _ => rfl)
    rest
theorem rcrEwCL (m : RM Reg16) : Statement (.rcrEwCL m) := fun h rest =>
  roundTrip_grp16 (op := 0xD3) 3 m (fun e => .done (.rcrEwCL e)) rfl (fun b hb => by simp [refusedEncoding, hb]) h (fun _ => rfl)
    rest
theorem shlEwCL (m : RM Reg16) : Statement (.shlEwCL m) := fun h rest =>
  roundTrip_grp16 (op := 0xD3) 4 m (fun e => .done (.shlEwCL e)) rfl (fun b hb => by simp [refusedEncoding, hb]) h (fun _ => rfl)
    rest
theorem shrEwCL (m : RM Reg16) : Statement (.shrEwCL m) := fun h rest =>
  roundTrip_grp16 (op := 0xD3) 5 m (fun e => .done (.shrEwCL e)) rfl (fun b hb => by simp [refusedEncoding, hb]) h (fun _ => rfl)
    rest
theorem sarEwCL (m : RM Reg16) : Statement (.sarEwCL m) := fun h rest =>
  roundTrip_grp16 (op := 0xD3) 7 m (fun e => .done (.sarEwCL e)) rfl (fun b hb => by simp [refusedEncoding, hb]) h (fun _ => rfl)
    rest
theorem aamIb (imm : Byte) : Statement (.aamIb imm) := fun _ _ => rfl
theorem aadIb (imm : Byte) : Statement (.aadIb imm) := fun _ _ => rfl
theorem esc0E (x : BitVec 3) (m : RM Reg16) : Statement (.esc0E x m) :=
  fun h rest => roundTrip_esc rfl (fun _ => rfl) x m h rest
theorem esc1E (x : BitVec 3) (m : RM Reg16) : Statement (.esc1E x m) :=
  fun h rest => roundTrip_esc rfl (fun _ => rfl) x m h rest
theorem esc2E (x : BitVec 3) (m : RM Reg16) : Statement (.esc2E x m) :=
  fun h rest => roundTrip_esc rfl (fun _ => rfl) x m h rest
theorem esc3E (x : BitVec 3) (m : RM Reg16) : Statement (.esc3E x m) :=
  fun h rest => roundTrip_esc rfl (fun _ => rfl) x m h rest
theorem esc4E (x : BitVec 3) (m : RM Reg16) : Statement (.esc4E x m) :=
  fun h rest => roundTrip_esc rfl (fun _ => rfl) x m h rest
theorem esc5E (x : BitVec 3) (m : RM Reg16) : Statement (.esc5E x m) :=
  fun h rest => roundTrip_esc rfl (fun _ => rfl) x m h rest
theorem esc6E (x : BitVec 3) (m : RM Reg16) : Statement (.esc6E x m) :=
  fun h rest => roundTrip_esc rfl (fun _ => rfl) x m h rest
theorem esc7E (x : BitVec 3) (m : RM Reg16) : Statement (.esc7E x m) :=
  fun h rest => roundTrip_esc rfl (fun _ => rfl) x m h rest
theorem loopneJb (rel : Byte) : Statement (.loopneJb rel) := fun _ _ => rfl
theorem loopeJb (rel : Byte) : Statement (.loopeJb rel) := fun _ _ => rfl
theorem loopJb (rel : Byte) : Statement (.loopJb rel) := fun _ _ => rfl
theorem jcxzJb (rel : Byte) : Statement (.jcxzJb rel) := fun _ _ => rfl
theorem inALIb (imm : Byte) : Statement (.inALIb imm) := fun _ _ => rfl
theorem inAXIb (imm : Byte) : Statement (.inAXIb imm) := fun _ _ => rfl
theorem outIbAL (imm : Byte) : Statement (.outIbAL imm) := fun _ _ => rfl
theorem outIbAX (imm : Byte) : Statement (.outIbAX imm) := fun _ _ => rfl
theorem callJw (rel : Word) : Statement (.callJw rel) := fun _ rest => roundTrip_iw rfl rel rest
theorem jmpJw (rel : Word) : Statement (.jmpJw rel) := fun _ rest => roundTrip_iw rfl rel rest
theorem jmpAp (off : Word) (seg : Word) : Statement (.jmpAp off seg) := fun _ rest => roundTrip_far rfl off seg rest
theorem jmpJb (rel : Byte) : Statement (.jmpJb rel) := fun _ _ => rfl
theorem testEbIb (m : RM Reg8) (imm : Byte) : Statement (.testEbIb m imm) := fun h rest =>
  roundTrip_grp8Ib (op := 0xF6) 0 m .testEbIb rfl (fun b hb => by simp [refusedEncoding, hb]) h (fun _ => rfl)
    imm rest
theorem notEb (m : RM Reg8) : Statement (.notEb m) := fun h rest =>
  roundTrip_grp8 (op := 0xF6) 2 m (fun e => .done (.notEb e)) rfl (fun b hb => by simp [refusedEncoding, hb]) h (fun _ => rfl)
    rest
theorem negEb (m : RM Reg8) : Statement (.negEb m) := fun h rest =>
  roundTrip_grp8 (op := 0xF6) 3 m (fun e => .done (.negEb e)) rfl (fun b hb => by simp [refusedEncoding, hb]) h (fun _ => rfl)
    rest
theorem mulEb (m : RM Reg8) : Statement (.mulEb m) := fun h rest =>
  roundTrip_grp8 (op := 0xF6) 4 m (fun e => .done (.mulEb e)) rfl (fun b hb => by simp [refusedEncoding, hb]) h (fun _ => rfl)
    rest
theorem imulEb (m : RM Reg8) : Statement (.imulEb m) := fun h rest =>
  roundTrip_grp8 (op := 0xF6) 5 m (fun e => .done (.imulEb e)) rfl (fun b hb => by simp [refusedEncoding, hb]) h (fun _ => rfl)
    rest
theorem divEb (m : RM Reg8) : Statement (.divEb m) := fun h rest =>
  roundTrip_grp8 (op := 0xF6) 6 m (fun e => .done (.divEb e)) rfl (fun b hb => by simp [refusedEncoding, hb]) h (fun _ => rfl)
    rest
theorem idivEb (m : RM Reg8) : Statement (.idivEb m) := fun h rest =>
  roundTrip_grp8 (op := 0xF6) 7 m (fun e => .done (.idivEb e)) rfl (fun b hb => by simp [refusedEncoding, hb]) h (fun _ => rfl)
    rest
theorem testEwIw (m : RM Reg16) (imm : Word) : Statement (.testEwIw m imm) := fun h rest =>
  roundTrip_grp16Iw (op := 0xF7) 0 m .testEwIw rfl (fun b hb => by simp [refusedEncoding, hb]) h (fun _ => rfl)
    imm rest
theorem notEw (m : RM Reg16) : Statement (.notEw m) := fun h rest =>
  roundTrip_grp16 (op := 0xF7) 2 m (fun e => .done (.notEw e)) rfl (fun b hb => by simp [refusedEncoding, hb]) h (fun _ => rfl)
    rest
theorem negEw (m : RM Reg16) : Statement (.negEw m) := fun h rest =>
  roundTrip_grp16 (op := 0xF7) 3 m (fun e => .done (.negEw e)) rfl (fun b hb => by simp [refusedEncoding, hb]) h (fun _ => rfl)
    rest
theorem mulEw (m : RM Reg16) : Statement (.mulEw m) := fun h rest =>
  roundTrip_grp16 (op := 0xF7) 4 m (fun e => .done (.mulEw e)) rfl (fun b hb => by simp [refusedEncoding, hb]) h (fun _ => rfl)
    rest
theorem imulEw (m : RM Reg16) : Statement (.imulEw m) := fun h rest =>
  roundTrip_grp16 (op := 0xF7) 5 m (fun e => .done (.imulEw e)) rfl (fun b hb => by simp [refusedEncoding, hb]) h (fun _ => rfl)
    rest
theorem divEw (m : RM Reg16) : Statement (.divEw m) := fun h rest =>
  roundTrip_grp16 (op := 0xF7) 6 m (fun e => .done (.divEw e)) rfl (fun b hb => by simp [refusedEncoding, hb]) h (fun _ => rfl)
    rest
theorem idivEw (m : RM Reg16) : Statement (.idivEw m) := fun h rest =>
  roundTrip_grp16 (op := 0xF7) 7 m (fun e => .done (.idivEw e)) rfl (fun b hb => by simp [refusedEncoding, hb]) h (fun _ => rfl)
    rest
theorem incEb (m : RM Reg8) : Statement (.incEb m) := fun h rest =>
  roundTrip_grp8 (op := 0xFE) 0 m (fun e => .done (.incEb e)) rfl (fun b hb => by simp [refusedEncoding, hb]) h (fun _ => rfl)
    rest
theorem decEb (m : RM Reg8) : Statement (.decEb m) := fun h rest =>
  roundTrip_grp8 (op := 0xFE) 1 m (fun e => .done (.decEb e)) rfl (fun b hb => by simp [refusedEncoding, hb]) h (fun _ => rfl)
    rest
theorem incEw (m : RM Reg16) : Statement (.incEw m) := fun h rest =>
  roundTrip_grp16 (op := 0xFF) 0 m (fun e => .done (.incEw e)) rfl (fun b hb => by simp [refusedEncoding, hb]) h (fun _ => rfl)
    rest
theorem decEw (m : RM Reg16) : Statement (.decEw m) := fun h rest =>
  roundTrip_grp16 (op := 0xFF) 1 m (fun e => .done (.decEw e)) rfl (fun b hb => by simp [refusedEncoding, hb]) h (fun _ => rfl)
    rest
theorem callEw (m : RM Reg16) : Statement (.callEw m) := fun h rest =>
  roundTrip_grp16 (op := 0xFF) 2 m (fun e => .done (.callEw e)) rfl (fun b hb => by simp [refusedEncoding, hb]) h (fun _ => rfl)
    rest
theorem callMp (a : EA) : Statement (.callMp a) := fun h rest =>
  roundTrip_grpMem (op := 0xFF) 3 a (.done (.callMp a)) rfl (fun b hb hm => by simpa [refusedEncoding, hb] using hm) h
    (fun _ => rfl) rest
theorem jmpEw (m : RM Reg16) : Statement (.jmpEw m) := fun h rest =>
  roundTrip_grp16 (op := 0xFF) 4 m (fun e => .done (.jmpEw e)) rfl (fun b hb => by simp [refusedEncoding, hb]) h (fun _ => rfl)
    rest
theorem jmpMp (a : EA) : Statement (.jmpMp a) := fun h rest =>
  roundTrip_grpMem (op := 0xFF) 5 a (.done (.jmpMp a)) rfl (fun b hb hm => by simpa [refusedEncoding, hb] using hm) h
    (fun _ => rfl) rest
theorem pushEw (m : RM Reg16) : Statement (.pushEw m) := fun h rest =>
  roundTrip_grp16 (op := 0xFF) 6 m (fun e => .done (.pushEw e)) rfl (fun b hb => by simp [refusedEncoding, hb]) h (fun _ => rfl)
    rest
theorem pushES : Statement (.pushES) := fun _ _ => rfl
theorem popES : Statement (.popES) := fun _ _ => rfl
theorem pushCS : Statement (.pushCS) := fun _ _ => rfl
theorem pushSS : Statement (.pushSS) := fun _ _ => rfl
theorem popSS : Statement (.popSS) := fun _ _ => rfl
theorem pushDS : Statement (.pushDS) := fun _ _ => rfl
theorem popDS : Statement (.popDS) := fun _ _ => rfl
theorem prefixES : Statement (.prefixES) := fun _ _ => rfl
theorem prefixCS : Statement (.prefixCS) := fun _ _ => rfl
theorem prefixSS : Statement (.prefixSS) := fun _ _ => rfl
theorem prefixDS : Statement (.prefixDS) := fun _ _ => rfl
theorem daa : Statement (.daa) := fun _ _ => rfl
theorem das : Statement (.das) := fun _ _ => rfl
theorem aaa : Statement (.aaa) := fun _ _ => rfl
theorem aas : Statement (.aas) := fun _ _ => rfl
theorem incAX : Statement (.incAX) := fun _ _ => rfl
theorem incCX : Statement (.incCX) := fun _ _ => rfl
theorem incDX : Statement (.incDX) := fun _ _ => rfl
theorem incBX : Statement (.incBX) := fun _ _ => rfl
theorem incSP : Statement (.incSP) := fun _ _ => rfl
theorem incBP : Statement (.incBP) := fun _ _ => rfl
theorem incSI : Statement (.incSI) := fun _ _ => rfl
theorem incDI : Statement (.incDI) := fun _ _ => rfl
theorem decAX : Statement (.decAX) := fun _ _ => rfl
theorem decCX : Statement (.decCX) := fun _ _ => rfl
theorem decDX : Statement (.decDX) := fun _ _ => rfl
theorem decBX : Statement (.decBX) := fun _ _ => rfl
theorem decSP : Statement (.decSP) := fun _ _ => rfl
theorem decBP : Statement (.decBP) := fun _ _ => rfl
theorem decSI : Statement (.decSI) := fun _ _ => rfl
theorem decDI : Statement (.decDI) := fun _ _ => rfl
theorem pushAX : Statement (.pushAX) := fun _ _ => rfl
theorem pushCX : Statement (.pushCX) := fun _ _ => rfl
theorem pushDX : Statement (.pushDX) := fun _ _ => rfl
theorem pushBX : Statement (.pushBX) := fun _ _ => rfl
theorem pushSP : Statement (.pushSP) := fun _ _ => rfl
theorem pushBP : Statement (.pushBP) := fun _ _ => rfl
theorem pushSI : Statement (.pushSI) := fun _ _ => rfl
theorem pushDI : Statement (.pushDI) := fun _ _ => rfl
theorem popAX : Statement (.popAX) := fun _ _ => rfl
theorem popCX : Statement (.popCX) := fun _ _ => rfl
theorem popDX : Statement (.popDX) := fun _ _ => rfl
theorem popBX : Statement (.popBX) := fun _ _ => rfl
theorem popSP : Statement (.popSP) := fun _ _ => rfl
theorem popBP : Statement (.popBP) := fun _ _ => rfl
theorem popSI : Statement (.popSI) := fun _ _ => rfl
theorem popDI : Statement (.popDI) := fun _ _ => rfl
theorem nop : Statement (.nop) := fun _ _ => rfl
theorem xchgAXCX : Statement (.xchgAXCX) := fun _ _ => rfl
theorem xchgAXDX : Statement (.xchgAXDX) := fun _ _ => rfl
theorem xchgAXBX : Statement (.xchgAXBX) := fun _ _ => rfl
theorem xchgAXSP : Statement (.xchgAXSP) := fun _ _ => rfl
theorem xchgAXBP : Statement (.xchgAXBP) := fun _ _ => rfl
theorem xchgAXSI : Statement (.xchgAXSI) := fun _ _ => rfl
theorem xchgAXDI : Statement (.xchgAXDI) := fun _ _ => rfl
theorem cbw : Statement (.cbw) := fun _ _ => rfl
theorem cwd : Statement (.cwd) := fun _ _ => rfl
theorem wait : Statement (.wait) := fun _ _ => rfl
theorem pushf : Statement (.pushf) := fun _ _ => rfl
theorem popf : Statement (.popf) := fun _ _ => rfl
theorem sahf : Statement (.sahf) := fun _ _ => rfl
theorem lahf : Statement (.lahf) := fun _ _ => rfl
theorem movsb : Statement (.movsb) := fun _ _ => rfl
theorem movsw : Statement (.movsw) := fun _ _ => rfl
theorem cmpsb : Statement (.cmpsb) := fun _ _ => rfl
theorem cmpsw : Statement (.cmpsw) := fun _ _ => rfl
theorem stosb : Statement (.stosb) := fun _ _ => rfl
theorem stosw : Statement (.stosw) := fun _ _ => rfl
theorem lodsb : Statement (.lodsb) := fun _ _ => rfl
theorem lodsw : Statement (.lodsw) := fun _ _ => rfl
theorem scasb : Statement (.scasb) := fun _ _ => rfl
theorem scasw : Statement (.scasw) := fun _ _ => rfl
theorem ret : Statement (.ret) := fun _ _ => rfl
theorem retf : Statement (.retf) := fun _ _ => rfl
theorem int3 : Statement (.int3) := fun _ _ => rfl
theorem into : Statement (.into) := fun _ _ => rfl
theorem iret : Statement (.iret) := fun _ _ => rfl
theorem salc : Statement (.salc) := fun _ _ => rfl
theorem xlat : Statement (.xlat) := fun _ _ => rfl
theorem inALDX : Statement (.inALDX) := fun _ _ => rfl
theorem inAXDX : Statement (.inAXDX) := fun _ _ => rfl
theorem outDXAL : Statement (.outDXAL) := fun _ _ => rfl
theorem outDXAX : Statement (.outDXAX) := fun _ _ => rfl
theorem lock : Statement (.lock) := fun _ _ => rfl
theorem repne : Statement (.repne) := fun _ _ => rfl
theorem rep : Statement (.rep) := fun _ _ => rfl
theorem hlt : Statement (.hlt) := fun _ _ => rfl
theorem cmc : Statement (.cmc) := fun _ _ => rfl
theorem clc : Statement (.clc) := fun _ _ => rfl
theorem stc : Statement (.stc) := fun _ _ => rfl
theorem cli : Statement (.cli) := fun _ _ => rfl
theorem sti : Statement (.sti) := fun _ _ => rfl
theorem cld : Statement (.cld) := fun _ _ => rfl
theorem std : Statement (.std) := fun _ _ => rfl

end Sys2Proof.Laws.RoundTrip
end

