-- ==== Sys2Proof/Tests/Slice0.lean ====
section
/-! SUPPORT. Tests: the well-formedness checks, words written out from the spec's encodings, single steps with the
expected results of 95_test_vectors.md, and for every statement with hypotheses a state and operands that meet them. -/

namespace Sys2Proof.Tests

open Sys2Proof Sys2Proof.Machine

/-! ### Helpers -/

/-- RAM holding the listed bytes. -/
def ram (l : List (Nat × Byte)) : Memory := l.foldl (fun m x => m.write (BitVec.ofNat 20 x.1) x.2) { cells := [] }

/-- Bytes from an address on. -/
def bytesAt (a : Nat) (l : List Byte) : List (Nat × Byte) := l.zipIdx.map fun x => (a + x.2, x.1)

/-- The start state of 95_test_vectors.md section 0, with code at 0x0100 and data. -/
def start (code : List Byte) (data : List (Nat × Byte)) : State :=
  { State.reset with
    sregs := { es := 0, cs := 0, ss := 0, ds := 0 }
    regs := { Regs.zero with sp := 0x0100 }
    ip := 0x0100
    biu := Biu.idle 0x0100
    mem := ram (bytesAt 0x0100 code ++ data) }

/-- The outcome is a next state of which the check holds. -/
def next (r : Result) (p : State → Bool) : Bool :=
  match r with
  | .next t => p t
  | _ => false

/-- CF, PF, AF, ZF, SF, OF as six bits. -/
def six (f : Flags) : List Bool := [f.cf, f.pf, f.af, f.zf, f.sf, f.ofl]

/-- Six flags written as in the tables: CF PF AF ZF SF OF. -/
def bits (l : List Nat) : List Bool := l.map fun n => n == 1

def Regs.ofAX (v : Word) : Regs := { Regs.zero with ax := v, sp := 0x0100 }

/-! ### Well-formedness refuses ill-formed terms (30_encoding.md R306, R313) -/

/-- mod = 00 with rm = 110 is the direct form: BP without a displacement has no encoding. -/
theorem test_wf_bp_without_displacement :
    (Instr.movGwEw .ax (.mem (.based .bp .none))).wf = false ∧ (Instr.addEbGb (.mem (.based .bp .none)) .al).wf = false ∧
      (Instr.ldsGwMp .si (.based .bp .none)).wf = false ∧ (Instr.movGwEw .ax (.mem (.based .bp (.d8 0)))).wf = true := by
  decide

/-- A `refused` that names an encoding R313 does not refuse, or does not have all its bytes. -/
theorem test_wf_not_refused :
    (Instr.refused 0x90 []).wf = false ∧ (Instr.refused 0x8E [0xD8]).wf = false ∧ (Instr.refused 0xC6 [0x08]).wf = false ∧
      (Instr.refused 0x0F [0xC0]).wf = false ∧ (Instr.refused 0x0F []).wf = true ∧
      (Instr.refused 0x8E [0xC8]).wf = true ∧ (Instr.refused 0xC6 [0x08, 0x55]).wf = true := by
  decide

/-! ### Words written out from the encodings (30_encoding.md R300 to R316; 95_test_vectors.md section 3) -/

/-- The bytes decode to the instruction, with nothing left. -/
def reads (bs : List Byte) (i : Instr) : Bool :=
  match decode bs with
  | .ok (j, rest) => j = i && rest = []
  | .error _ => false

/-- ADD, ADC, SBB, SUB, CMP, INC, DEC, NEG, MUL, IMUL, DIV, IDIV, the adjustments and the conversions. -/
theorem test_decode_arithmetic :
    reads [0x00, 0xC0] (.addEbGb (.reg .al) .al) = true ∧
      reads [0x83, 0xC0, 0xFF] (.addEwIbs (.reg .ax) 0xFF) = true ∧
      reads [0x15, 0x34, 0x12] (.adcAXIw 0x1234) = true ∧
      reads [0x1A, 0x46, 0xFE] (.sbbGbEb .al (.mem (.based .bp (.d8 0xFE)))) = true ∧
      reads [0x29, 0xD8] (.subEwGw (.reg .ax) .bx) = true ∧
      reads [0x3C, 0x07] (.cmpALIb 0x07) = true ∧
      reads [0x40] .incAX = true ∧
      reads [0x4F] .decDI = true ∧
      reads [0xFE, 0x07] (.incEb (.mem (.based .bx .none))) = true ∧
      reads [0xFF, 0xC9] (.decEw (.reg .cx)) = true ∧
      reads [0xF7, 0xD9] (.negEw (.reg .cx)) = true ∧
      reads [0xF6, 0xE3] (.mulEb (.reg .bl)) = true ∧
      reads [0xF7, 0xEB] (.imulEw (.reg .bx)) = true ∧
      reads [0xF6, 0xF3] (.divEb (.reg .bl)) = true ∧
      reads [0xF6, 0xFB] (.idivEb (.reg .bl)) = true ∧
      reads [0x27] .daa = true ∧
      reads [0x2F] .das = true ∧
      reads [0x37] .aaa = true ∧
      reads [0x3F] .aas = true ∧
      reads [0xD4, 0x0A] (.aamIb 0x0A) = true ∧
      reads [0xD5, 0x0A] (.aadIb 0x0A) = true ∧
      reads [0x98] .cbw = true ∧
      reads [0x99] .cwd = true ∧
      reads [0xD6] .salc = true := by
  decide

/-- AND, OR, XOR, TEST, NOT, the shifts and rotates. -/
theorem test_decode_logic :
    reads [0x20, 0xC8] (.andEbGb (.reg .al) .cl) = true ∧
      reads [0x0D, 0x01, 0x80] (.orAXIw 0x8001) = true ∧
      reads [0x31, 0xC0] (.xorEwGw (.reg .ax) .ax) = true ∧
      reads [0xF6, 0x06, 0x00, 0x02, 0x80] (.testEbIb (.mem (.direct 0x0200)) 0x80) = true ∧
      reads [0xF7, 0xC1, 0xFF, 0x00] (.testEwIw (.reg .cx) 0x00FF) = true ∧
      reads [0xF6, 0xD0] (.notEb (.reg .al)) = true ∧
      reads [0xD0, 0xC0] (.rolEb1 (.reg .al)) = true ∧
      reads [0xD1, 0xCB] (.rorEw1 (.reg .bx)) = true ∧
      reads [0xD2, 0xD1] (.rclEbCL (.reg .cl)) = true ∧
      reads [0xD3, 0xDA] (.rcrEwCL (.reg .dx)) = true ∧
      reads [0xD3, 0xE0] (.shlEwCL (.reg .ax)) = true ∧
      reads [0xD2, 0x2E, 0x00, 0x02] (.shrEbCL (.mem (.direct 0x0200))) = true ∧
      reads [0xD0, 0xF8] (.sarEb1 (.reg .al)) = true := by
  decide

/-- The data transfer instructions. -/
theorem test_decode_transfer :
    reads [0x8B, 0x07] (.movGwEw .ax (.mem (.based .bx .none))) = true ∧
      reads [0x8B, 0x46, 0xFE] (.movGwEw .ax (.mem (.based .bp (.d8 0xFE)))) = true ∧
      reads [0x8B, 0x06, 0x34, 0x12] (.movGwEw .ax (.mem (.direct 0x1234))) = true ∧
      reads [0x8B, 0x86, 0x34, 0x12] (.movGwEw .ax (.mem (.based .bp (.d16 0x1234)))) = true ∧
      reads [0xC7, 0x06, 0x00, 0x02, 0xCD, 0xAB] (.movEwIw (.mem (.direct 0x0200)) 0xABCD) = true ∧
      reads [0xB4, 0x00] (.movAHIb 0) = true ∧
      reads [0x8E, 0xD8] (.movDSEw (.reg .ax)) = true ∧
      reads [0x8C, 0xF8] (.movEwDS (.reg .ax)) = true ∧
      reads [0xA3, 0x00, 0x03] (.movOwAX 0x0300) = true ∧
      reads [0x54] .pushSP = true ∧
      reads [0x1E] .pushDS = true ∧
      reads [0x8F, 0x07] (.popEw (.mem (.based .bx .none))) = true ∧
      reads [0xFF, 0xF4] (.pushEw (.reg .sp)) = true ∧
      reads [0x93] .xchgAXBX = true ∧
      reads [0x90] .nop = true ∧
      reads [0x86, 0x06, 0x00, 0x02] (.xchgEbGb (.mem (.direct 0x0200)) .al) = true ∧
      reads [0xE4, 0x60] (.inALIb 0x60) = true ∧
      reads [0xEF] .outDXAX = true ∧
      reads [0xD7] .xlat = true ∧
      reads [0x8D, 0x40, 0x05] (.leaGwM .ax (.mem (.based .bxsi (.d8 0x05)))) = true ∧
      reads [0xC4, 0x3E, 0x00, 0x06] (.lesGwMp .di (.direct 0x0600)) = true ∧
      reads [0x9E] .sahf = true ∧
      reads [0x9C] .pushf = true := by
  decide

/-- Strings, control transfer, processor control and prefixes. -/
theorem test_decode_control :
    reads [0xA4] .movsb = true ∧
      reads [0xA7] .cmpsw = true ∧
      reads [0xAE] .scasb = true ∧
      reads [0xAD] .lodsw = true ∧
      reads [0xAA] .stosb = true ∧
      reads [0x72, 0x05] (.jbJb 0x05) = true ∧
      reads [0x62, 0x05] (.jbJb 0x05) = true ∧
      reads [0xEA, 0x00, 0x00, 0x00, 0x10] (.jmpAp 0x0000 0x1000) = true ∧
      reads [0xE9, 0x20, 0x00] (.jmpJw 0x0020) = true ∧
      reads [0xFF, 0xE3] (.jmpEw (.reg .bx)) = true ∧
      reads [0xFF, 0x2E, 0x00, 0x05] (.jmpMp (.direct 0x0500)) = true ∧
      reads [0x9A, 0x00, 0x00, 0x00, 0x30] (.callAp 0x0000 0x3000) = true ∧
      reads [0xC0, 0x04, 0x00] (.retIw 0x0004) = true ∧
      reads [0xCB] .retf = true ∧
      reads [0xE2, 0xFC] (.loopJb 0xFC) = true ∧
      reads [0xE3, 0x10] (.jcxzJb 0x10) = true ∧
      reads [0xCD, 0x21] (.intIb 0x21) = true ∧
      reads [0xCF] .iret = true ∧
      reads [0x9B] .wait = true ∧
      reads [0xF4] .hlt = true ∧
      reads [0xD9, 0x07] (.esc1E 0 (.mem (.based .bx .none))) = true ∧
      reads [0xFB] .sti = true ∧
      reads [0x26] .prefixES = true ∧
      reads [0xF1] .lock = true ∧
      reads [0xF2] .repne = true := by
  decide

/-- Encodings that are refused (R313). -/
theorem test_decode_refused :
    reads [0x0F] (.refused 0x0F []) = true ∧
      reads [0xFF, 0xFF] (.refused 0xFF [0xFF]) = true ∧
      reads [0xFF, 0xD8] (.refused 0xFF [0xD8]) = true ∧
      reads [0xD0, 0xF0] (.refused 0xD0 [0xF0]) = true ∧
      reads [0x8E, 0xC8] (.refused 0x8E [0xC8]) = true ∧
      reads [0xD1, 0x70, 0x05] (.refused 0xD1 [0x70, 0x05]) = true ∧
      reads [0xC7, 0x8E, 0x34, 0x12, 0x78, 0x56] (.refused 0xC7 [0x8E, 0x34, 0x12, 0x78, 0x56]) = true := by
  decide

/-- The words of the opcode table as it numbers them (30_encoding.md R326): NOP, ADD Eb,Gb, GROUP 3 DIV. -/
theorem test_decodeTableWord :
    decodeTableWord 8 0x90 = some .nop ∧ decodeTableWord 16 0x00C0 = some (.addEbGb (.reg .al) .al) ∧
      decodeTableWord 16 0xF6F3 = some (.divEb (.reg .bl)) ∧ decodeTableWord 16 0xB834 = some (.movAXIw 0x0034) := by
  decide

/-- From reset, the step after `withFetchWord` runs the word. -/
theorem test_withFetchWord :
    next (step (State.reset.withFetchWord 16 0xB834)) (fun t => t.regs.ax == 0x0034 && t.ip == 3) = true := by
  decide

/-! ### Single steps (95_test_vectors.md sections 1, 4 to 10) -/

/-- S1: MOV AX,0x1234. -/
theorem test_mov_imm :
    next (step (start [0xB8, 0x34, 0x12] []))
      (fun t => t.regs.ax == 0x1234 && t.ip == 0x0103 && t.flags == Flags.clear && t.bus == []) = true := by
  decide

/-- S2: ADD AL,AL from 0x80: the carry out is 1, the half carry 0 (90_conflicts.md C1). -/
theorem test_add_al_al :
    next (step { start [0x00, 0xC0] [] with
        regs := { Regs.zero with sp := 0x0100, ax := 0x0080 } })
      (fun t => t.regs.ax == 0 && six t.flags == bits [1, 1, 0, 1, 0, 1]) = true := by
  decide

/-- S3: DIV BL by 0 enters interrupt 0 with the offset after the instruction. -/
theorem test_div_by_zero :
    next (step { start [0xF6, 0xF3] (bytesAt 0x00000 [0x00, 0x03, 0x00, 0x00]) with
        regs := { Regs.zero with sp := 0x0100, ax := 0x1000 } })
      (fun t => t.regs.sp == 0x00FA && t.ip == 0x0300 && t.sregs.cs == 0 && !t.flags.ifl) = true := by
  decide

/-- S4: the first iteration of REP MOVSB reads, then writes. -/
theorem test_rep_movsb_first :
    next (step { start [0xF3, 0xA4] (bytesAt 0x00300 [0xAA, 0xBB, 0xCC]) with
        regs := { Regs.zero with sp := 0x0100, cx := 3, si := 0x0300, di := 0x0400 } })
      (fun t => t.mem.read 0x00400 == 0xAA && t.regs.cx == 2 && t.regs.si == 0x0301 && t.regs.di == 0x0401 && t.eu.rep.isSome &&
        t.bus.map (fun x => (x.kind, x.addr)) == [(.memRead, 0x00300), (.memWrite, 0x00400)]) = true := by
  decide

/-- S5 and CT-4: JMP far flushes the queue. -/
theorem test_jmp_far :
    next (step (start [0xEA, 0x00, 0x00, 0x00, 0x10] []))
      (fun t => t.sregs.cs == 0x1000 && t.ip == 0 && t.biu.queue == [] && t.biu.preload == none && t.biu.pc == 0) = true := by
  decide

/-- S6: IN AL,0x60 with the answer 0x1E. -/
theorem test_in_al :
    next (step { start [0xE4, 0x60] [] with
        plat := { Platform.initial with answers := [0x1E] } })
      (fun t => t.regs.ax == 0x001E && t.bus == [{ kind := .ioRead, addr := 0x00060, data := 0x1E, lock := false, final := true }]) = true := by
  decide

/-- DT-2: MOV BYTE [BX],0x5A. -/
theorem test_mov_mem_imm :
    next (step { start [0xC6, 0x07, 0x5A] [] with
        regs := { Regs.zero with sp := 0x0100, bx := 0x0200 } })
      (fun t => t.mem.read 0x00200 == 0x5A) = true := by
  decide

/-- DT-3: MOV AH,0 leaves AL alone. -/
theorem test_mov_ah :
    next (step { start [0xB4, 0x00] [] with
        regs := { Regs.zero with sp := 0x0100, ax := 0x7711 } })
      (fun t => t.regs.ax == 0x0011) = true := by
  decide

/-- DT-4: MOV DS,AX sets the shadow under SREG_LOAD_INHIBIT. -/
theorem test_mov_ds :
    next (step { start [0x8E, 0xD8] [] with
        regs := { Regs.zero with sp := 0x0100, ax := 0x2000 } })
      (fun t => t.sregs.ds == 0x2000 && t.eu.inhibitAll) = true := by
  decide

/-- DT-5, 8C C8 with CS 0: the selector is read. -/
theorem test_mov_ax_cs :
    next (step { start [0x8C, 0xD8] [] with
        sregs := { es := 0, cs := 0, ss := 0, ds := 0xF000 } })
      (fun t => t.regs.ax == 0xF000) = true := by
  decide

/-- DT-6: the accumulator from a direct offset in DS. -/
theorem test_mov_al_ob :
    next (step { start [0xA0, 0x10, 0x00] (bytesAt 0x01010 [0x77]) with
        sregs := { es := 0, cs := 0, ss := 0, ds := 0x0100 } })
      (fun t => loByte t.regs.ax == 0x77) = true := by
  decide

/-- DT-8: a word at offset 0xFFFF wraps within the segment. -/
theorem test_mov_ow_wraps :
    next (step { start [0xA3, 0xFF, 0xFF] [] with
        regs := { Regs.zero with sp := 0x0100, ax := 0xBEEF } })
      (fun t => t.mem.read 0x0FFFF == 0xEF && t.mem.read 0x00000 == 0xBE) = true := by
  decide

/-- DT-9. -/
theorem test_push_ax :
    next (step { start [0x50] [] with
        regs := { Regs.zero with sp := 0x0100, ax := 0x1234 } })
      (fun t => t.regs.sp == 0x00FE && t.mem.read 0x000FE == 0x34 && t.mem.read 0x000FF == 0x12) = true := by
  decide

/-- DT-10: PUSH SP pushes the decremented SP. -/
theorem test_push_sp :
    next (step (start [0x54] []))
      (fun t => t.regs.sp == 0x00FE && t.mem.read 0x000FE == 0xFE && t.mem.read 0x000FF == 0x00) = true := by
  decide

/-- DT-11: SP wraps. -/
theorem test_push_wraps :
    next (step { start [0x50] [] with
        regs := { Regs.zero with sp := 0, ax := 0xABCD } })
      (fun t => t.regs.sp == 0xFFFE && t.mem.read 0x0FFFE == 0xCD && t.mem.read 0x0FFFF == 0xAB) = true := by
  decide

/-- DT-12: the FLAGS read value. -/
theorem test_pushf :
    next (step { start [0x9C] [] with
        flags := { Flags.clear with cf := true, zf := true, ifl := true } })
      (fun t => t.mem.read 0x000FE == 0x43 && t.mem.read 0x000FF == 0xF2) = true := by
  decide

/-- DT-13. -/
theorem test_pop_bx :
    next (step { start [0x5B] (bytesAt 0x000FE [0x34, 0x12]) with
        regs := { Regs.zero with sp := 0x00FE } })
      (fun t => t.regs.bx == 0x1234 && t.regs.sp == 0x0100) = true := by
  decide

/-- DT-15: every defined flag is set, the reserved bits are not. -/
theorem test_popf :
    next (step { start [0x9D] (bytesAt 0x000FE [0xFF, 0xFF]) with
        regs := { Regs.zero with sp := 0x00FE } })
      (fun t => t.flags.toWord == 0xFFD7 && t.flags.tf && !t.eu.trapArmed) = true := by
  decide

/-- DT-16. -/
theorem test_xchg_ax_bx :
    next (step { start [0x93] [] with
        regs := { Regs.zero with sp := 0x0100, ax := 0x1111, bx := 0x2222 } })
      (fun t => t.regs.ax == 0x2222 && t.regs.bx == 0x1111) = true := by
  decide

/-- DT-17: a read, then a write. -/
theorem test_xchg_mem :
    next (step { start [0x86, 0x06, 0x00, 0x02] (bytesAt 0x00200 [0xAA]) with
        regs := { Regs.zero with sp := 0x0100, ax := 0x0055 } })
      (fun t => t.regs.ax == 0x00AA && t.mem.read 0x00200 == 0x55 && t.bus.map (fun x => x.kind) == [.memRead, .memWrite]) = true := by
  decide

/-- DT-18. -/
theorem test_out_dx_al :
    next (step { start [0xEE] [] with
        regs := { Regs.zero with sp := 0x0100, dx := 0x03F8, ax := 0x0041 } })
      (fun t => t.bus == [{ kind := .ioWrite, addr := 0x003F8, data := 0x41, lock := false, final := true }]) = true := by
  decide

/-- DT-19: port 0xFFFF, then port 0. -/
theorem test_in_ax_dx_wraps :
    next (step { start [0xED] [] with
        regs := { Regs.zero with sp := 0x0100, dx := 0xFFFF }
        plat := { Platform.initial with answers := [0x12, 0x34] } })
      (fun t => t.regs.ax == 0x3412 && t.bus.map (fun x => x.addr) == [0x0FFFF, 0x00000]) = true := by
  decide

/-- DT-21: BX + AL wraps. -/
theorem test_xlat :
    next (step { start [0xD7] (bytesAt 0x00000 [0x42]) with
        regs := { Regs.zero with sp := 0x0100, bx := 0xFFFF, ax := 0x0001 } })
      (fun t => t.regs.ax == 0x0042) = true := by
  decide

/-- DT-22: no access. -/
theorem test_lea :
    next (step { start [0x8D, 0x40, 0x05] [] with
        regs := { Regs.zero with sp := 0x0100, bx := 0x1000, si := 0x0020 } })
      (fun t => t.regs.ax == 0x1025 && t.bus == []) = true := by
  decide

/-- DT-24. -/
theorem test_lds :
    next (step (start [0xC5, 0x36, 0x00, 0x06] (bytesAt 0x00600 [0x00, 0x10, 0x00, 0x20])))
      (fun t => t.regs.si == 0x1000 && t.sregs.ds == 0x2000) = true := by
  decide

/-- DT-25. -/
theorem test_les :
    next (step (start [0xC4, 0x3E, 0x00, 0x06] (bytesAt 0x00600 [0x34, 0x12, 0x00, 0xB8])))
      (fun t => t.regs.di == 0x1234 && t.sregs.es == 0xB800) = true := by
  decide

/-- DT-27. -/
theorem test_lahf :
    next (step { start [0x9F] [] with
        flags := { Flags.clear with cf := true, zf := true, sf := true, af := true, pf := true } })
      (fun t => t.regs.ax == 0xD700) = true := by
  decide

/-- DT-29: OF is not written. -/
theorem test_sahf :
    next (step { start [0x9E] [] with
        flags := { Flags.clear with ofl := true, cf := true } })
      (fun t => six t.flags == bits [0, 0, 0, 0, 0, 1]) = true := by
  decide

/-- DT-30. -/
theorem test_nop :
    next (step (start [0x90] []))
      (fun t => t.ip == 0x0101 && t.regs == (start [] []).regs && t.flags == Flags.clear) = true := by
  decide

/-- Rows of the table of 41_arithmetic.md R503 and R504 vectors (95_test_vectors.md section 5). -/
theorem test_add_rows :
    addResult (0x7F : Byte) 0x01 false = 0x80 ∧ six (addFlags Flags.clear (0x7F : Byte) 0x01 false) = bits [0, 0, 1, 0, 1, 1] ∧
      six (addFlags Flags.clear (0x80 : Byte) 0x7F false) = bits [0, 1, 0, 0, 1, 0] ∧
      six (addFlags Flags.clear (0x00FF : Word) 0x0001 false) = bits [0, 1, 1, 0, 0, 0] ∧
      addResult (0xFFFF : Word) 0xFFFF true = 0xFFFF ∧
      six (addFlags Flags.clear (0xFFFF : Word) 0xFFFF true) = bits [1, 1, 1, 0, 1, 0] := by
  decide

theorem test_sub_rows :
    subResult (0x80 : Byte) 0x01 false = 0x7F ∧ six (subFlags Flags.clear (0x80 : Byte) 0x01 false) = bits [0, 0, 1, 0, 0, 1] ∧
      six (subFlags Flags.clear (0x7F : Byte) 0xFF false) = bits [1, 0, 0, 0, 1, 1] ∧
      subResult (0x0000 : Word) 0xFFFF true = 0x0000 ∧
      six (subFlags Flags.clear (0x0000 : Word) 0xFFFF true) = bits [1, 1, 1, 1, 0, 0] ∧
      six (subFlags Flags.clear (0x05 : Byte) 0x04 true) = bits [0, 1, 0, 1, 0, 0] := by
  decide

/-- 83 C0 FF: the immediate byte is sign-extended. -/
theorem test_add_imm_sign :
    next (step { start [0x83, 0xC0, 0xFF] [] with
        regs := { Regs.zero with sp := 0x0100, ax := 1 } })
      (fun t => t.regs.ax == 0 && six t.flags == bits [1, 1, 1, 1, 0, 0]) = true := by
  decide

/-- 1C 00 with CF = 1. -/
theorem test_sbb_imm :
    next (step { start [0x1C, 0x00] [] with
        flags := { Flags.clear with cf := true } })
      (fun t => loByte t.regs.ax == 0xFF && t.flags.cf) = true := by
  decide

/-- 3C 07: AL is not written. -/
theorem test_cmp_imm :
    next (step { start [0x3C, 0x07] [] with
        regs := { Regs.zero with sp := 0x0100, ax := 5 } })
      (fun t => t.regs.ax == 5 && six t.flags == bits [1, 0, 1, 0, 1, 0]) = true := by
  decide

/-- INC AX from 0xFFFF leaves CF. -/
theorem test_inc_keeps_cf :
    next (step { start [0x40] [] with
        regs := { Regs.zero with sp := 0x0100, ax := 0xFFFF }
        flags := { Flags.clear with cf := true } })
      (fun t => t.regs.ax == 0 && t.flags.zf && t.flags.cf) = true := by
  decide

/-- DEC BYTE [BX] from 0x80. -/
theorem test_dec_mem :
    next (step { start [0xFE, 0x0F] (bytesAt 0x00200 [0x80]) with
        regs := { Regs.zero with sp := 0x0100, bx := 0x0200 } })
      (fun t => t.mem.read 0x00200 == 0x7F && six t.flags == bits [0, 0, 1, 0, 0, 1]) = true := by
  decide

/-- NEG AL of 0x80. -/
theorem test_neg :
    next (step { start [0xF6, 0xD8] [] with
        regs := { Regs.zero with sp := 0x0100, ax := 0x0080 } })
      (fun t => t.regs.ax == 0x0080 && six t.flags == bits [1, 0, 0, 0, 1, 1]) = true := by
  decide

/-- MUL of 0x1234 by 0x0010. -/
theorem test_mul_word :
    next (step { start [0xF7, 0xE3] [] with
        regs := { Regs.zero with sp := 0x0100, ax := 0x1234, bx := 0x0010 } })
      (fun t => t.regs.dx == 0x0001 && t.regs.ax == 0x2340 && t.flags.cf && t.flags.ofl) = true := by
  decide

/-- IMUL: 0x80 is no sign extension of +128. -/
theorem test_imul_byte :
    next (step { start [0xF6, 0xEB] [] with
        regs := { Regs.zero with sp := 0x0100, ax := 0x0040, bx := 0x0002 } })
      (fun t => t.regs.ax == 0x0080 && t.flags.cf && t.flags.ofl) = true := by
  decide

/-- DIV 0xFFFEFFFF by 0xFFFF. -/
theorem test_div_word :
    next (step { start [0xF7, 0xF3] [] with
        regs := { Regs.zero with sp := 0x0100, dx := 0xFFFE, ax := 0xFFFF, bx := 0xFFFF } })
      (fun t => t.regs.ax == 0xFFFF && t.regs.dx == 0xFFFE && t.ip == 0x0102) = true := by
  decide

/-- IDIV of -7 by 2 truncates toward zero. -/
theorem test_idiv_byte :
    next (step { start [0xF6, 0xFB] [] with
        regs := { Regs.zero with sp := 0x0100, ax := 0xFFF9, bx := 0x0002 } })
      (fun t => t.regs.ax == 0xFFFD) = true := by
  decide

/-- INT-14: a quotient of -128 is a divide error. -/
theorem test_idiv_edge :
    next (step { start [0xF6, 0xFB] [] with
        regs := { Regs.zero with sp := 0x0100, ax := 0xFF80, bx := 0x0001 } })
      (fun t => t.regs.sp == 0x00FA && t.bus.any (fun x => x.addr == 0x000FA && x.data == 0x02)) = true := by
  decide

/-- IDIV of 0xFFFFFFF9 by 2. -/
theorem test_idiv_word :
    next (step { start [0xF7, 0xFB] [] with
        regs := { Regs.zero with sp := 0x0100, dx := 0xFFFF, ax := 0xFFF9, bx := 0x0002 } })
      (fun t => t.regs.ax == 0xFFFD && t.regs.dx == 0xFFFF) = true := by
  decide

/-- DAA of 0xAE. -/
theorem test_daa :
    next (step { start [0x27] [] with
        regs := { Regs.zero with sp := 0x0100, ax := 0x00AE } })
      (fun t => t.regs.ax == 0x0014 && t.flags.af && t.flags.cf && !t.flags.sf && !t.flags.zf && t.flags.pf) = true := by
  decide

/-- DAS of 0x03 with AF. -/
theorem test_das :
    next (step { start [0x2F] [] with
        regs := { Regs.zero with sp := 0x0100, ax := 0x0003 }
        flags := { Flags.clear with af := true } })
      (fun t => t.regs.ax == 0x00FD && t.flags.cf && t.flags.sf && !t.flags.pf) = true := by
  decide

/-- AAA of 0x00FA: the +6 does not carry into AH. -/
theorem test_aaa :
    next (step { start [0x37] [] with
        regs := { Regs.zero with sp := 0x0100, ax := 0x00FA } })
      (fun t => t.regs.ax == 0x0100 && t.flags.af && t.flags.cf) = true := by
  decide

/-- AAS of 0x000A. -/
theorem test_aas :
    next (step { start [0x3F] [] with
        regs := { Regs.zero with sp := 0x0100, ax := 0x000A } })
      (fun t => t.regs.ax == 0xFF04 && t.flags.af && t.flags.cf) = true := by
  decide

/-- AAM 10 of 0xFF. -/
theorem test_aam :
    next (step { start [0xD4, 0x0A] [] with
        regs := { Regs.zero with sp := 0x0100, ax := 0x00FF } })
      (fun t => t.regs.ax == 0x1905 && !t.flags.sf && !t.flags.zf && t.flags.pf) = true := by
  decide

/-- INT-15: AAM 0 is a divide error and leaves AX. -/
theorem test_aam_zero :
    next (step { start [0xD4, 0x00] [] with
        regs := { Regs.zero with sp := 0x0100, ax := 0x0005 } })
      (fun t => t.regs.ax == 0x0005 && t.regs.sp == 0x00FA) = true := by
  decide

/-- AAD 10 of 0xFFFF. -/
theorem test_aad :
    next (step { start [0xD5, 0x0A] [] with
        regs := { Regs.zero with sp := 0x0100, ax := 0xFFFF } })
      (fun t => t.regs.ax == 0x00F5 && t.flags.sf && !t.flags.zf && t.flags.pf) = true := by
  decide

/-- CBW of 0x80. -/
theorem test_cbw :
    next (step { start [0x98] [] with
        regs := { Regs.zero with sp := 0x0100, ax := 0x0080 } })
      (fun t => t.regs.ax == 0xFF80) = true := by
  decide

/-- CWD of 0x8000. -/
theorem test_cwd :
    next (step { start [0x99] [] with
        regs := { Regs.zero with sp := 0x0100, ax := 0x8000 } })
      (fun t => t.regs.dx == 0xFFFF && t.regs.ax == 0x8000) = true := by
  decide

/-- SALC with CF = 0. -/
theorem test_salc :
    next (step { start [0xD6] [] with
        regs := { Regs.zero with sp := 0x0100, ax := 0x1234 } })
      (fun t => t.regs.ax == 0x1200) = true := by
  decide

/-- XOR AX,AX. -/
theorem test_xor :
    next (step { start [0x31, 0xC0] [] with
        regs := { Regs.zero with sp := 0x0100, ax := 0x1234 }
        flags := { Flags.clear with cf := true, ofl := true } })
      (fun t => t.regs.ax == 0 && !t.flags.cf && !t.flags.ofl && t.flags.zf && t.flags.pf && !t.flags.sf) = true := by
  decide

/-- AND AL,CL. -/
theorem test_and :
    next (step { start [0x20, 0xC8] [] with
        regs := { Regs.zero with sp := 0x0100, ax := 0x00FF, cx := 0x0081 } })
      (fun t => t.regs.ax == 0x0081 && t.flags.sf && !t.flags.zf && t.flags.pf) = true := by
  decide

/-- TEST writes flags alone. -/
theorem test_test :
    next (step { start [0x84, 0xC0] [] with
        regs := { Regs.zero with sp := 0x0100, ax := 0x0080 } })
      (fun t => t.regs.ax == 0x0080 && t.flags.sf && !t.flags.pf) = true := by
  decide

/-- NOT AL. -/
theorem test_not :
    next (step { start [0xF6, 0xD0] [] with
        regs := { Regs.zero with sp := 0x0100, ax := 0x000F } })
      (fun t => t.regs.ax == 0x00F0 && t.flags == Flags.clear) = true := by
  decide

/-- ROL AL,1 of 0x81. -/
theorem test_rol_one :
    next (step { start [0xD0, 0xC0] [] with
        regs := { Regs.zero with sp := 0x0100, ax := 0x0081 } })
      (fun t => t.regs.ax == 0x0003 && t.flags.cf && t.flags.ofl) = true := by
  decide

/-- ROR AL,1 of 0x01: OF = 1 (90_conflicts.md C2). -/
theorem test_ror_one :
    next (step { start [0xD0, 0xC8] [] with
        regs := { Regs.zero with sp := 0x0100, ax := 0x0001 } })
      (fun t => t.regs.ax == 0x0080 && t.flags.cf && t.flags.ofl) = true := by
  decide

/-- Rows of the shift vectors (95_test_vectors.md section 6), result and CF. -/
theorem test_shift_rows :
    ShiftOp.rcl.steps 9 (0x55 : Byte) true = (0x55, true) ∧ ShiftOp.rcr.steps 9 (0xAA : Byte) false = (0xAA, false) ∧
      ShiftOp.rcl.steps 1 (0x8000 : Word) true = (0x0001, true) ∧ ShiftOp.rcr.steps 1 (0x01 : Byte) true = (0x80, true) ∧
      ShiftOp.shr.steps 9 (0xFF : Byte) false = (0x00, false) ∧ ShiftOp.sar.steps 7 (0x80 : Byte) false = (0xFF, false) ∧
      ShiftOp.rol.steps 4 (0x8001 : Word) false = (0x0018, false) := by
  decide

/-- SHL AX,CL. -/
theorem test_shl_cl :
    next (step { start [0xD3, 0xE0] [] with
        regs := { Regs.zero with sp := 0x0100, ax := 0x1234, cx := 4 } })
      (fun t => t.regs.ax == 0x2340 && t.flags.cf && t.regs.cx == 4) = true := by
  decide

/-- SHR of memory by CL = 0 reads and writes nothing. -/
theorem test_shr_zero :
    next (step { start [0xD2, 0x2E, 0x00, 0x02] (bytesAt 0x00200 [0x80]) with
        flags := { Flags.clear with cf := true } })
      (fun t => t.mem.read 0x00200 == 0x80 && t.flags == { Flags.clear with cf := true } && t.bus.map (fun x => x.kind) == [.memRead]) = true := by
  decide

/-- SAR AL,1 of 0x81. -/
theorem test_sar_one :
    next (step { start [0xD0, 0xF8] [] with
        regs := { Regs.zero with sp := 0x0100, ax := 0x0081 } })
      (fun t => t.regs.ax == 0x00C0 && t.flags.cf && !t.flags.ofl && t.flags.sf) = true := by
  decide

/-- STR-5. -/
theorem test_lodsw :
    next (step { start [0xAD] (bytesAt 0x00300 [0x34, 0x12]) with
        regs := { Regs.zero with sp := 0x0100, si := 0x0300 } })
      (fun t => t.regs.ax == 0x1234 && t.regs.si == 0x0302) = true := by
  decide

/-- STR-6, its first iteration. -/
theorem test_stosb_down :
    next (step { start [0xF3, 0xAA] [] with
        regs := { Regs.zero with sp := 0x0100, ax := 0x005A, cx := 3, di := 0x0203 }
        flags := { Flags.clear with df := true } })
      (fun t => t.mem.read 0x00203 == 0x5A && t.regs.di == 0x0202 && t.regs.cx == 2) = true := by
  decide

/-- STR-7: CX = 0. -/
theorem test_rep_cx_zero :
    next (step { start [0xF3, 0xA4] [] with
        regs := { Regs.zero with sp := 0x0100, si := 0x0300, di := 0x0200 } })
      (fun t => t.regs.cx == 0 && t.regs.si == 0x0300 && t.bus == [] && t.ip == 0x0102 && t.eu.rep == none) = true := by
  decide

/-- STR-2, its last pair: ZF = 0 ends REPE. -/
theorem test_cmpsb_ends :
    next (step { start [0xF3, 0xA6] (bytesAt 0x00300 [0x42] ++ bytesAt 0x00200 [0x43]) with
        regs := { Regs.zero with sp := 0x0100, cx := 2, si := 0x0300, di := 0x0200 } })
      (fun t => t.flags.cf && !t.flags.zf && t.regs.cx == 1 && t.eu.rep == none) = true := by
  decide

/-- STR-4, its first iteration. -/
theorem test_scasb :
    next (step { start [0xF2, 0xAE] (bytesAt 0x00200 [0x01]) with
        regs := { Regs.zero with sp := 0x0100, cx := 0x0010, di := 0x0200 } })
      (fun t => t.regs.cx == 0x000F && t.regs.di == 0x0201 && t.eu.rep.isSome) = true := by
  decide

/-- STR-8: the override applies to the source. -/
theorem test_movsb_override :
    next (step { start [0x26, 0xF3, 0xA4] (bytesAt 0x00000 [0x55] ++ bytesAt 0x10000 [0x77]) with
        sregs := { es := 0, cs := 0, ss := 0, ds := 0x1000 }
        regs := { Regs.zero with sp := 0x0100, cx := 1, di := 0x0300 } })
      (fun t => t.mem.read 0x00300 == 0x55) = true := by
  decide

/-- CT-2. -/
theorem test_jmp_short_back :
    next (step (start [0xEB, 0xFE] []))
      (fun t => t.ip == 0x0100 && t.biu.queue == []) = true := by
  decide

/-- CT-5. -/
theorem test_jmp_bx :
    next (step { start [0xFF, 0xE3] [] with
        regs := { Regs.zero with sp := 0x0100, bx := 0x0400 } })
      (fun t => t.ip == 0x0400) = true := by
  decide

/-- CT-6. -/
theorem test_jmp_mem_far :
    next (step (start [0xFF, 0x2E, 0x00, 0x05] (bytesAt 0x00500 [0x00, 0x01, 0x00, 0x20])))
      (fun t => t.sregs.cs == 0x2000 && t.ip == 0x0100) = true := by
  decide

/-- CT-7 at 0x0100. -/
theorem test_call_near :
    next (step (start [0xE8, 0xFD, 0x00] []))
      (fun t => t.mem.read 0x000FE == 0x03 && t.mem.read 0x000FF == 0x01 && t.ip == 0x0200 && t.regs.sp == 0x00FE) = true := by
  decide

/-- CT-8. -/
theorem test_call_far :
    next (step (start [0x9A, 0x00, 0x00, 0x00, 0x30] []))
      (fun t => t.sregs.cs == 0x3000 && t.ip == 0 && t.regs.sp == 0x00FC && t.mem.read 0x000FC == 0x05 && t.mem.read 0x000FD == 0x01 &&
        t.mem.read 0x000FE == 0) = true := by
  decide

/-- CT-10. -/
theorem test_call_mem_far :
    next (step (start [0xFF, 0x1E, 0x00, 0x05] (bytesAt 0x00500 [0x00, 0x01, 0x00, 0x20])))
      (fun t => t.sregs.cs == 0x2000 && t.ip == 0x0100 && t.mem.read 0x000FC == 0x04) = true := by
  decide

/-- CT-12. -/
theorem test_ret_imm :
    next (step { start [0xC2, 0x04, 0x00] (bytesAt 0x000FE [0x03, 0x02]) with
        regs := { Regs.zero with sp := 0x00FE } })
      (fun t => t.ip == 0x0203 && t.regs.sp == 0x0104) = true := by
  decide

/-- CT-13. -/
theorem test_retf :
    next (step { start [0xCB] (bytesAt 0x000FC [0x05, 0x01, 0x00, 0x00]) with
        regs := { Regs.zero with sp := 0x00FC } })
      (fun t => t.ip == 0x0105 && t.sregs.cs == 0 && t.regs.sp == 0x0100) = true := by
  decide

/-- CT-18: LOOP from CX = 0. -/
theorem test_loop :
    next (step { start [0xE2, 0xFC] [] with
        regs := { Regs.zero with sp := 0x0100 } })
      (fun t => t.regs.cx == 0xFFFF && t.ip == 0x00FE) = true := by
  decide

/-- CT-19. -/
theorem test_loope :
    next (step { start [0xE1, 0xFC] [] with
        regs := { Regs.zero with sp := 0x0100, cx := 5 } })
      (fun t => t.regs.cx == 4 && t.ip == 0x0102) = true := by
  decide

/-- CT-21. -/
theorem test_jcxz :
    next (step (start [0xE3, 0x10] []))
      (fun t => t.ip == 0x0112 && t.regs.cx == 0) = true := by
  decide

/-- The conditions after CMP AL,b with 0x80 and 0x7F, and with 0x05 and 0x07 (95_test_vectors.md section 8). -/
theorem test_conditions :
    (let f := { Flags.clear with ofl := true }
     [Cond.l, .a, .o, .ae].all (fun c => c.holds f) ∧ [Cond.ge, .be, .no, .b, .e].all (fun c => !c.holds f)) ∧
      (let f := { Flags.clear with cf := true, sf := true }
       [Cond.b, .be, .l, .le, .ne, .s].all (fun c => c.holds f) ∧
         [Cond.ae, .a, .ge, .g, .e, .ns].all (fun c => !c.holds f)) := by
  decide

/-- CT-23 at 0x0100. -/
theorem test_int :
    next (step { start [0xCD, 0x21] (bytesAt 0x00084 [0x50, 0x00, 0x00, 0x10]) with
        flags := { Flags.clear with ifl := true } })
      (fun t => t.regs.sp == 0x00FA && t.mem.read 0x000FA == 0x02 && t.mem.read 0x000FE == 0x02 && t.mem.read 0x000FF == 0xF2 &&
        t.sregs.cs == 0x1000 && t.ip == 0x0050 && !t.flags.ifl) = true := by
  decide

/-- CT-26. -/
theorem test_into :
    next (step { start [0xCE] (bytesAt 0x00010 [0x00, 0x05, 0x00, 0x00]) with
        flags := { Flags.clear with ofl := true } })
      (fun t => t.mem.read 0x000FA == 0x01 && t.ip == 0x0500 && t.mem.read 0x000FF == 0xF8) = true := by
  decide

/-- CT-28: TF is back, and traps only after the next instruction. -/
theorem test_iret :
    next (step { start [0xCF] (bytesAt 0x000FA [0x02, 0x02, 0x00, 0x00, 0x00, 0x01]) with
        regs := { Regs.zero with sp := 0x00FA } })
      (fun t => t.ip == 0x0202 && t.flags.tf && t.regs.sp == 0x0100 && !t.eu.trapArmed) = true := by
  decide

/-- PC-7. -/
theorem test_sti :
    next (step (start [0xFB] []))
      (fun t => t.flags.ifl && t.eu.inhibitIntr) = true := by
  decide

/-- PC-9: halted, one Halt bus cycle, and the BIU fetches no more. -/
theorem test_hlt :
    next (step (start [0xF4] []))
      (fun t => t.eu.halted && t.ip == 0x0101 && t.biu.fetch == .halted && t.bus.map (fun x => x.kind) == [.halt]) = true := by
  decide

/-- PC-11: TEST not asserted. -/
theorem test_wait :
    next (step { start [0x9B] [] with
        inputs := [{ StepInput.idle with test := false }] })
      (fun t => t.eu.waiting && t.ip == 0x0101 && t.eu.waitIp == 0x0100) = true := by
  decide

/-- PC-13: LOCK is asserted with both halves of both transfers and released. -/
theorem test_lock_xchg :
    next (step (start [0xF0, 0x87, 0x06, 0x00, 0x02] []))
      (fun t => t.bus.all (fun x => x.lock) && t.bus.length == 4 && !t.eu.lockActive) = true := by
  decide

/-- PC-14: ES override. -/
theorem test_override :
    next (step { start [0x26, 0xA0, 0x00, 0x02] (bytesAt 0x00200 [0x99]) with
        sregs := { es := 0, cs := 0, ss := 0, ds := 0x1000 } })
      (fun t => loByte t.regs.ax == 0x99 && t.eu.segOverride == none) = true := by
  decide

/-- PC-16: one INC. -/
theorem test_rep_inc :
    next (step { start [0xF3, 0x40] [] with
        regs := { Regs.zero with sp := 0x0100, cx := 3 } })
      (fun t => t.regs.ax == 1 && t.regs.cx == 3) = true := by
  decide

/-- PC-12 with ESC_MEM_READ: one discarded read. -/
theorem test_esc :
    next (step { start [0xD9, 0x07] (bytesAt 0x00200 [0x12]) with
        regs := { Regs.zero with sp := 0x0100, bx := 0x0200 }
        cfg := { Params.initial with escMemRead := true } })
      (fun t => t.bus.length == 1 && t.regs.bx == 0x0200 && t.ip == 0x0102) = true := by
  decide

/-- ENC-22: DIV under a repeat prefix is refused at the start of the record. -/
theorem test_refused :
    next (step (start [0xF3, 0xF6, 0xF3] []))
      (fun t => t.refused && t.ip == 0x0100 && t.regs == (start [] []).regs) = true := by
  decide

/-- INT-1 at 0x0100. -/
theorem test_nmi :
    next (step { start [0x90] (bytesAt 0x00008 [0x00, 0x04, 0x00, 0x00]) with
        flags := { Flags.clear with ifl := true }
        inputs := [{ StepInput.idle with nmi := true }] })
      (fun t => t.regs.sp == 0x00FA && t.mem.read 0x000FA == 0 && t.mem.read 0x000FB == 1 && t.mem.read 0x000FF == 0xF2 && t.ip == 0x0400 &&
        !t.flags.ifl && !t.eu.nmiLatch) = true := by
  decide

/-- INT-2: IF = 0. -/
theorem test_intr_masked :
    next (step { start [0x90] [] with
        inputs := [{ StepInput.idle with intr := some 0x08 }] })
      (fun t => t.ip == 0x0101 && t.regs.sp == 0x0100 && t.bus == []) = true := by
  decide

/-- INT-3: two acknowledge transactions under LOCK, then the entry. -/
theorem test_intr :
    next (step { start [0x90] (bytesAt 0x00020 [0x00, 0x05, 0x00, 0xF0]) with
        flags := { Flags.clear with ifl := true }
        inputs := [{ StepInput.idle with intr := some 0x08 }] })
      (fun t => t.ip == 0x0500 && t.sregs.cs == 0xF000 && (t.bus.take 2).all (fun x => x.kind == .intAck && x.lock)) = true := by
  decide

/-- INT-9: the trap after an instruction that began with TF = 1. -/
theorem test_trap :
    next (step { start [0x90] (bytesAt 0x00004 [0x00, 0x06, 0x00, 0x00]) with
        eu := { Eu.idle with trapArmed := true }
        flags := { Flags.clear with tf := true } })
      (fun t => t.ip == 0x0600 && !t.flags.tf && t.mem.read 0x000FF == 0xF1) = true := by
  decide

/-- INT-12. -/
theorem test_halt_stays :
    next (step { start [0x90] [] with
        eu := { Eu.idle with halted := true }
        inputs := [{ StepInput.idle with intr := some 9 }] })
      (fun t => t.eu.halted && t.ip == 0x0100 && t.regs.sp == 0x0100) = true := by
  decide

/-- INT-8: NMI between iterations pushes the offset of the prefix. -/
theorem test_repeat_interrupted :
    next (step { start [0xF3, 0xA4] (bytesAt 0x00008 [0x00, 0x04, 0x00, 0x00]) with
        ip := 0x0102
        biu := Biu.idle 0x0102
        regs := { Regs.zero with sp := 0x0100, cx := 2 }
        eu := { Eu.idle with rep := some { prim := .movs, width := .byte, cond := .repe, seg := .ds, resumeIp := 0x0100 }, nmiLatch := true } })
      (fun t => t.mem.read 0x000FA == 0x00 && t.mem.read 0x000FB == 0x01 && t.ip == 0x0400 && t.eu.rep == none && t.regs.cx == 2) = true := by
  decide

/-- INT-16, BEFORE_PUSHES. -/
theorem test_vector_order :
    next (step { start [0xCD, 0x00] (bytesAt 0x00000 [0x00, 0x05, 0x00, 0x00]) with
        regs := { Regs.zero with sp := 0x0004 }
        cfg := { Params.initial with intVectorOrder := .beforePushes } })
      (fun t => t.sregs.cs == 0 && t.ip == 0x0500 && t.mem.read 0x0FFFE == 0x02) = true := by
  decide

/-- INT-16, AFTER_PUSHES: the pushed words are read back. -/
theorem test_vector_order_after :
    next (step { start [0xCD, 0x00] (bytesAt 0x00000 [0x00, 0x05, 0x00, 0x00]) with
        regs := { Regs.zero with sp := 0x0004 } })
      (fun t => t.sregs.cs == 0xF002 && t.ip == 0x0000) = true := by
  decide

/-- RST-1. -/
theorem test_reset :
    next (step { start [0x90] [] with
        inputs := [{ StepInput.idle with reset := true }]
        eu := { Eu.idle with halted := true } })
      (fun t => t.sregs.cs == 0xFFFF && t.ip == 0 && t.flags.toWord == 0xF002 && !t.eu.halted && t.biu == Biu.idle 0) = true := by
  decide

/-- R907: a waiting core goes on prefetching while TEST is not asserted. -/
theorem test_waiting_prefetches :
    next (step { start [0x90, 0x90] [] with
        eu := { Eu.idle with waiting := true }
        inputs := [{ StepInput.idle with test := false, prefetch := 2 }] })
      (fun t => t.eu.waiting && t.biu.held == [0x90, 0x90] && t.ip == 0x0100) = true := by
  decide

/-- R910: an interrupt that ends a locked repetition is entered without LOCK. -/
theorem test_locked_repeat_interrupted :
    next (step { start [0xF3, 0xA4] (bytesAt 0x00008 [0x00, 0x04, 0x00, 0x00]) with
        ip := 0x0102
        biu := Biu.idle 0x0102
        regs := { Regs.zero with sp := 0x0100, cx := 2 }
        eu := { Eu.idle with nmiLatch := true, lockActive := true, rep := some { prim := .movs, width := .byte, cond := .repe, seg := .ds, resumeIp := 0x0100 } } })
      (fun t => t.bus.length == 10 && t.bus.all (fun x => !x.lock) && !t.eu.lockActive) = true := by
  decide

/-- A prefix run longer than one step reads goes on in the next step, with no boundary: an NMI waits
(70_reset_and_hazards.md R1115). -/
theorem test_prefix_run_goes_on :
    next (State.runFrom 0 (start [] [])) (fun t => t.eu.decoding && t.ip == 0x0100) = true ∧
      next (step { start [0x40] [] with
          eu := { Eu.idle with decoding := true, nmiLatch := true, segOverride := some .es } })
        (fun t => t.regs.ax == 1 && t.eu.nmiLatch && !t.eu.decoding && t.ip == 0x0101) = true := by
  decide

/-- After a refused encoding the machine refuses (10_state.md R123). -/
theorem test_step_after_refused : step { State.reset with refused := true } = .refused .unsupportedOpcode := rfl

/-! ### Ticks of the bus (95_test_vectors.md section 11) -/

/-- The first eight ticks of BUS-1: the first fetch after reset has its T1 in tick 4, at 0xFFFF0. -/
theorem test_bus1 :
    let r := State.reset.busRun (List.replicate 7 ([], ⟨0, 0⟩) ++ [([.popFirst], ⟨0, 0⟩)])
    r.2.map (fun x => (x.tState, x.ta, x.status)) =
        [(.ti, .td, .passive), (.ti, .tr, .passive), (.ti, .ts, .passive), (.t1, .td, .codeFetch),
          (.t2, .td, .codeFetch), (.t3, .tr, .codeFetch), (.t4, .ts, .codeFetch), (.t1, .td, .codeFetch)] ∧
      r.2.map (fun x => (x.queueLen, x.queueOp, x.signals.mrdc, x.signals.ale)) =
        [(0, .idle, false, false), (0, .idle, false, false), (0, .idle, false, false), (0, .idle, false, true),
          (0, .idle, true, false), (0, .idle, true, false), (1, .idle, false, false), (0, .first, false, true)] ∧
      (r.2.map fun x => x.addr)[3]? = some 0xFFFF0 ∧ (r.2.map fun x => x.addr)[7]? = some 0xFFFF1 ∧ r.1.biu.pc = 2 := by
  decide

/-- A BIU at rest with code bytes in its queue. -/
def resting (pc : Word) (q : List Byte) (f : FetchState) : State :=
  { State.reset with sregs := { SRegs.reset with cs := 0 }, biu := { Biu.idle pc with queue := q, fetch := f } }

/-- Ticks in which the EU asks nothing and the fabric answers no wait states. -/
def ticks (n : Nat) : List (List EuAction × FabricAnswer) := List.replicate n ([], ⟨0, 0⟩)

/-- BUS-3: a word read with one wait state on the low byte; the two bytes are assembled. -/
theorem test_bus3 :
    let r := ((resting 0x0110 [1, 2, 3, 4] .pausedFull).placeCode 0x0300 [0xCD, 0xAB]).busRun
      (([.readMem .word 0x0030 0], ⟨0, 0⟩) :: ticks 4 ++ [([], ⟨0, 1⟩)] ++ ticks 7)
    r.2.map (fun x => (x.tState, x.ta)) =
        [(.ti, .td), (.ti, .tr), (.ti, .ts), (.t1, .td), (.t2, .td), (.t3, .tr), (.tw, .ts), (.t4, .t0), (.t1, .td),
          (.t2, .td), (.t3, .td), (.t4, .td), (.ti, .td)] ∧
      (r.2.map fun x => x.addr)[8]? = some 0x00301 ∧ r.1.biu.delivered = 0xABCD := by
  decide

/-- BUS-4: a late request aborts a code-fetch address cycle, at no cost to PC. -/
theorem test_bus4 :
    let r := (resting 0x0110 [1, 2] .normal).busRun
      (ticks 1 ++ ([.writeMem .byte 0x0040 0 0x5A], ⟨0, 0⟩) :: ticks 7)
    r.2.map (fun x => (x.tState, x.ta)) =
        [(.ti, .td), (.ti, .tr), (.ti, .ta), (.ti, .ta), (.ti, .tr), (.ti, .ts), (.t1, .td), (.t2, .td), (.t3, .tr)] ∧
      r.2.map (fun x => (x.status == .memWrite, x.signals.amwc, x.signals.mwtc)) =
        List.replicate 6 (false, false, false) ++ [(true, false, false), (true, true, false), (true, true, true)] ∧
      (r.2.map fun x => x.addr)[6]? = some 0x00400 ∧ r.1.biu.pc = 0x0110 := by
  decide

/-- BUS-4b: the same abort in T3 of a code fetch. -/
theorem test_bus4b :
    let r := (resting 0x0110 [] .normal).busRun (ticks 5 ++ ([.readMem .byte 0x0050 0], ⟨0, 0⟩) :: ticks 5)
    (r.2.drop 5).map (fun x => (x.tState, x.ta, x.status, x.queueLen)) =
        [(.t3, .tr, .codeFetch, 0), (.t4, .ta, .codeFetch, 1), (.ti, .ta, .passive, 1), (.ti, .tr, .passive, 1),
          (.ti, .ts, .passive, 1), (.t1, .td, .memRead, 1)] ∧
      (r.2.map fun x => x.addr)[10]? = some 0x00500 ∧ r.1.biu.pc = 0x0111 := by
  decide

/-- BUS-5: a flush during a code fetch with a wait state; CS is the new one from the flush on. -/
theorem test_bus5 :
    let s := { resting 0xFFF6 [1] .normal with sregs := { SRegs.reset with cs := 0xF000 } }
    let a := s.busRun (ticks 4)
    let b : State := { a.1 with sregs := { SRegs.reset with cs := 0x1000 } }
    let r := b.busRun (([.flush 0], ⟨0, 0⟩) :: ([], ⟨0, 1⟩) :: ticks 7)
    (a.2.map fun x => x.addr)[3]? = some 0xFFFF6 ∧
      r.2.map (fun x => (x.tState, x.ta, x.queueOp, x.queueLen)) =
        [(.t2, .td, .flush, 0), (.t3, .tr, .idle, 0), (.tw, .ts, .idle, 0), (.t4, .t0, .idle, 0), (.t1, .td, .idle, 0),
          (.t2, .td, .idle, 0), (.t3, .tr, .idle, 0), (.t4, .ts, .idle, 1), (.t1, .td, .idle, 1)] ∧
      (r.2.map fun x => x.addr)[4]? = some 0x10000 ∧ (r.2.map fun x => x.addr)[8]? = some 0x10001 ∧ r.1.biu.pc = 2 := by
  decide

/-- BUS-7: the halt pulse from an idle bus, and after a code fetch, whose byte is queued. -/
theorem test_bus7 :
    ((resting 0x0110 [1, 2, 3, 4] .pausedFull).busRun (([.halt 0 0], ⟨0, 0⟩) :: ticks 3)).2.map
        (fun x => (x.tState, x.status, x.signals)) =
        [(.ti, .passive, busSignals .passive .ti), (.t1, .halt, { busSignals .passive .ti with ale := true }),
          (.ti, .passive, busSignals .passive .ti), (.ti, .passive, busSignals .passive .ti)] ∧
      let r := (resting 0x0110 [] .normal).busRun (ticks 5 ++ ([.halt 0 0], ⟨0, 0⟩) :: ticks 3)
      (r.2.drop 5).map (fun x => (x.tState, x.status, x.queueLen)) =
          [(.t3, .codeFetch, 0), (.t4, .codeFetch, 1), (.t1, .halt, 1), (.ti, .passive, 1)] ∧ r.1.biu.fetch = .halted := by
  decide

/-- BUS-8: two acknowledge transactions back to back under LOCK; the second delivers its byte. -/
theorem test_bus8 :
    let r := (resting 0x0110 [1, 2] .normal).busRun
      (([.inta 0 0], ⟨0, 0⟩) :: ticks 5 ++ List.replicate 5 ([], ⟨0x08, 3⟩))
    (r.2.drop 3).map (fun x => (x.tState, x.status, x.lock)) =
        [(.t1, .intAck, true), (.t2, .intAck, true), (.t3, .intAck, true), (.t4, .intAck, true), (.t1, .intAck, true),
          (.t2, .intAck, true), (.t3, .intAck, true), (.t4, .intAck, true)] ∧
      r.2.map (fun x => x.signals.inta) =
        [false, false, false, false, true, true, false, false, true, true, false] ∧ r.1.biu.delivered = 0x0008 := by
  decide

/-- After a prefix, a further prefix is First and the opcode byte Subsequent (R252, D10). -/
theorem test_queue_op_after_prefix :
    ((resting 0x0110 [0xF3, 0xA4] .normal).busRun [([.popAfterPrefix], ⟨0, 0⟩), ([.popAfterPrefix], ⟨0, 0⟩)]).2.map
        (fun x => x.queueOp) = [.first, .subsequent] := by
  decide

/-- R907: WAIT samples TEST in the tick in which it begins to execute, after the one in which its byte is taken. -/
theorem test_wait_samples_test :
    let c : CycleCore := { core := { resting 0x0101 [0x9B] .suspended with ip := 0x0100 }, phase := .boundary, nmiEdge := false }
    let tick := fun b : Bool => ({ StepInput.idle with test := b },
      { go := true, suspend := false, resume := false, fetchNext := false : EuTiming }, (⟨0, 0⟩ : FabricAnswer))
    (c.run [tick false, tick true]).1.core.eu.waiting = false ∧ (c.run [tick true, tick false]).1.core.eu.waiting = true := by
  decide

/-- R318: INC AX, which makes no transaction, ends with `fetch_next()`: the byte after it is taken as First, into the preload
slot, at the boundary at which an NMI is then recognised. -/
theorem test_instruction_ends_with_fetch_next :
    let c : CycleCore :=
      { core := { resting 0x0102 [0x40, 0x90] .suspended with ip := 0x0100, regs := Regs.zero }, phase := .boundary, nmiEdge := false }
    let g : EuTiming := { go := true, suspend := false, resume := false, fetchNext := false }
    let r := c.run (List.replicate 2 (StepInput.idle, g, ⟨0, 0⟩))
    r.2.map (fun x => (x.queueOp, x.queueLen)) = [(.first, 1), (.first, 0)] ∧ r.1.core.biu.preload = some 0x90 ∧
      r.1.core.regs.ax = 1 ∧ r.1.phase = .boundary ∧
      (match ({ r.1 with nmiEdge := true } : CycleCore).atBoundary StepInput.idle with
        | .goes { phase := .execute x, .. } => x.work == .entry .nmi []
        | _ => false) = true := by
  decide

/-- TRAP_AFTER_ENTRY: an entry and the trap are due at one boundary, and are two works, each with its flush (R230). -/
theorem test_entries_of_one_boundary :
    let s : State := { State.reset with
      eu := { Eu.idle with nmiLatch := true, trapArmed := true }
      cfg := { Params.initial with trapWithInterrupt := .trapAfterEntry } }
    s.entriesDue = [.nmi, .trap] ∧
      (EuWork.entry .nmi [.trap]).then s = .execute { start := s, work := .entry .trap [], answers := [], requested := 0 } := by
  decide

/-- PC-13, its bus cycles, in a byte form (`F0 86 07`, LOCK XCHG [BX],AL): LOCK from the tick after the prefix to the T4 of
the write; the instruction's effect at its end. -/
theorem test_locked_exchange_ticks :
    let s := { resting 0x0103 [0xF0, 0x86, 0x07] .suspended with
      ip := 0x0100, regs := { Regs.zero with ax := 0x0055, bx := 0x0200 }, mem := ram [(0x00200, 0xAA)] }
    let g : EuTiming := { go := true, suspend := true, resume := false, fetchNext := false }
    let r := CycleCore.run { core := s, phase := .boundary, nmiEdge := false }
      (List.replicate 18 (StepInput.idle, g, ⟨0, 0⟩))
    r.2.map (fun x => x.lock) = false :: List.replicate 16 true ++ [false] ∧
      (r.2.take 4).map (fun x => x.queueOp) = [.first, .subsequent, .subsequent, .idle] ∧
      (r.2.drop 10).map (fun x => (x.tState, x.status)) =
        [(.ti, .passive), (.ti, .passive), (.ti, .passive), (.t1, .memWrite), (.t2, .memWrite), (.t3, .memWrite),
          (.t4, .memWrite), (.ti, .passive)] ∧
      r.1.core.regs.ax = 0x00AA ∧ r.1.core.mem.read 0x00200 = 0x55 ∧ r.1.core.ip = 0x0103 := by
  decide


/-! ### Witnesses: states and operands that meet the hypotheses of the statements -/

/-- The reset state with other registers. -/
def withRegs (r : Regs) : State := { State.reset with regs := r }

/-- No RAM at all: the whole address space is a device, or unmapped. -/
def mapped (k : RegionKind) (answers : List Byte) : State :=
  { State.reset with plat := { regions := [{ kind := k, first := 0, last := 0xFFFFF }], ports := [], answers := answers } }

theorem reset_inv : State.reset.Inv := by
  unfold State.Inv State.MemOk State.QueueOk State.IpOk State.RepOk State.RecordOk; decide

/-- `Biu.Inv` as a check. -/
def busOk (b : Biu) : Bool :=
  decide (b.queue.length + b.coming ≤ Config.queueSize) && (b.committed.isSome == (b.tState == .t1)) &&
    (b.owner.isSome == (b.ta == .tr || b.ta == .ts || b.ta == .t0)) && (b.abortLeft == 0 || b.ta == .ta) &&
    (b.ta != .ta || b.euWaiting.isSome) && (!b.discarded || b.codeInFlight || Request.isCode b.committed) &&
    (match b.tState with
      | .ti => b.status == .passive
      | .t1 => true
      | .tinit => false
      | _ => b.status != .passive && b.status != .halt) &&
    (b.euWaiting.all (fun r => r.kind.isEu) && b.nextHalf.all (fun r => r.kind.isEu) &&
      b.owner.all (fun r => r.kind.isEu || r.kind == .codeFetch) && b.committed.all (fun r => r.kind != .passive) &&
      b.haltPending.all (fun r => r.kind == .halt)) &&
    ((b.queueWait != some .first && b.queueWait != some .fetchNext) || b.preload == none)

theorem bus_inv {b : Biu} (h : busOk b = true) : b.Inv := by
  simp only [busOk, Bool.and_eq_true] at h
  obtain ⟨⟨⟨⟨⟨⟨⟨⟨h1, h2⟩, h3⟩, h4⟩, h5⟩, h6⟩, h7⟩, h8⟩, h9⟩ := h
  refine ⟨by simpa [Biu.RoomOk] using h1, ?_, ⟨?_, ?_, ?_⟩, ?_, ?_, ?_, ?_⟩
  · rw [Biu.CommitOk, eq_of_beq h2, beq_iff_eq]
  · rw [eq_of_beq h3]; simp [or_assoc]
  · intro h; simpa [h] using h4
  · intro h; simpa [h] using h5
  · intro h; simpa [h] using h6
  · unfold Biu.StatusOk
    cases ht : b.tState <;> simp_all
  · obtain ⟨⟨⟨⟨a1, a2⟩, a3⟩, a4⟩, a5⟩ := by simpa only [Bool.and_eq_true] using h8
    refine ⟨?_, ?_, ?_, ?_, ?_⟩ <;> intro r hr <;> simp_all
  · unfold Biu.WaitOk; rintro (h | h) <;> simpa [h] using h9

theorem reset_biu_inv : State.reset.biu.Inv := bus_inv (by decide)

theorem witness_DecodeEncode :
    (Instr.addEwGw (.mem (.based .bp (.d8 0x80))) .di).wf = true ∧ (Instr.callMp (.direct 0xFFFF)).wf = true ∧
      (Instr.refused 0xC7 [0x8E, 0x34, 0x12, 0x78, 0x56]).wf = true := by
  decide

theorem witness_AliasesDecodeAlike : ∃ r : BitVec 3, r = 0 ∨ r = 2 ∨ r = 3 := ⟨0, .inl rfl⟩

/-- Each kind of refused encoding, at a boundary of its range. -/
theorem witness_RefusedEncodings :
    ((0x8E : Byte) = 0x8E ∧ ((5 : BitVec 3) = 1 ∨ (5 : BitVec 3) = 5)) ∧ ((0xC7 : Byte) = 0xC7 ∧ (1 : BitVec 3) ≠ 0) ∧
      ((0xD3 : Byte) = 0xD3 ∧ (6 : BitVec 3) = 6) ∧ ((0xFE : Byte) = 0xFE ∧ 2 ≤ (2 : BitVec 3).toNat) ∧
      ((0xFF : Byte) = 0xFF ∧ (7 : BitVec 3) = 7) ∧
      ((0xFF : Byte) = 0xFF ∧ ((3 : BitVec 3) = 3 ∨ (3 : BitVec 3) = 5) ∧ (3 : BitVec 2) = 3) ∧
      ((0xC5 : Byte) = 0xC5 ∧ (3 : BitVec 2) = 3) := by
  decide

/-- As many bytes as the displacement and the immediate have, with and without each; and fewer. -/
theorem witness_RefusedEncodings_operands :
    ([] : List Byte).length = 0 ∧ ([0x05] : List Byte).length = 1 ∧ ([0x34, 0x12, 0x78, 0x56] : List Byte).length = 2 + 2 ∧
      ([0x34, 0x12, 0x78] : List Byte).length < 2 + 2 := by
  decide

/-- RAM at the last offset of a segment and at the first; an unmapped address; a device with an answer. -/
theorem witness_ReadsAndWrites :
    (State.reset.IsRam (lin 0xFFFF 0xFFFF) ∧ State.reset.IsRam (lin 0xFFFF (0xFFFF + 1)) ∧ State.reset.MemOk) ∧
      (mapped .unmapped []).plat.kindAt (lin 0 0) = some .unmapped ∧
      (mapped .device [0x42]).plat.kindAt (lin 0xFFFF 0x000F) = some .device ∧
      (mapped .device [0x42]).plat.answers = 0x42 :: [] :=
  ⟨⟨rfl, rfl, rfl⟩, by decide, by decide, rfl⟩

theorem witness_EffectiveAddress :
    State.reset.eu.segOverride = none ∧ (State.reset.setSegOverride .es).eu.segOverride = some .es := ⟨rfl, rfl⟩

theorem witness_AdditionCore : (8 : Nat) = 8 ∨ (8 : Nat) = 16 := .inl rfl
theorem witness_SubtractionCore : (16 : Nat) = 8 ∨ (16 : Nat) = 16 := .inr rfl

theorem witness_LogicCore :
    ((8 : Nat) = 8 ∨ (8 : Nat) = 16) ∧
      ((AluOp.xor = .and ∧ (0xFF : Byte) = 0xF0 &&& 0x0F) ∨ (AluOp.xor = .test ∧ (0xFF : Byte) = 0xF0 &&& 0x0F) ∨
        (AluOp.xor = .or ∧ (0xFF : Byte) = 0xF0 ||| 0x0F) ∨ (AluOp.xor = .xor ∧ (0xFF : Byte) = 0xF0 ^^^ 0x0F)) := by
  decide

theorem witness_AluBytes : State.reset.MemOk ∧ instrGbEb .cmp = some .cmpGbEb := ⟨rfl, rfl⟩

theorem witness_AluWords :
    State.reset.MemOk ∧ instrEwIbs .and = some .andEwIbs ∧ instrGwEw .sbb = some .sbbGwEw := ⟨rfl, rfl, rfl⟩

theorem witness_UnaryOperations : State.reset.MemOk := rfl
theorem witness_NegFlags : (16 : Nat) = 8 ∨ (16 : Nat) = 16 := .inr rfl
theorem witness_ShiftsComplete : State.reset.MemOk := rfl
/-- At the least and the greatest counts of the clauses. -/
theorem witness_ShiftSteps :
    ((8 : Nat) = 8 ∨ (8 : Nat) = 16) ∧ (0 < 1 ∧ 1 ≤ 8) ∧ (0 < 16 ∧ 16 ≤ 16) ∧ (7 : Nat) < 8 := by
  decide
theorem witness_Moves : State.reset.MemOk := rfl

theorem witness_SegmentRegisterMoves :
    State.reset.MemOk ∧ instrMovToSeg .ss = some .movSSEw ∧ instrPopSeg .es = some .popES := ⟨rfl, rfl, rfl⟩

theorem witness_Pushes : State.reset.MemOk ∧ (RM.reg Reg16.ax) ≠ .reg .sp := ⟨rfl, by decide⟩
theorem witness_Pops : State.reset.MemOk ∧ Reg16.ax ≠ .sp := ⟨rfl, by decide⟩
theorem witness_Exchanges : State.reset.MemOk := rfl

/-- A platform that claims a range of ports, with a script. -/
def withPorts (first last : Word) (answers : List Byte) : State :=
  { State.reset with plat := { regions := [], ports := [{ first := first, last := last }], answers := answers } }

/-- The immediate port and the port in DX, at the last port and the one after it: with neither claimed, with both, and
with one of them. -/
theorem witness_InputOutput :
    (∃ imm : Byte, Instr.inAXIb 0xFF = .inAXIb imm ∧ (0x00FF : Word) = imm.setWidth 16) ∧
      (let s := { mapped .device [] with regs := { Regs.zero with dx := 0xFFFF } }
       (Instr.inAXDX = .inAXDX ∧ (0xFFFF : Word) = s.regs.dx) ∧ s.plat.claims 0xFFFF = false ∧
         s.plat.claims (0xFFFF + 1) = false) ∧
      (let s := withPorts 0 0xFFFF [1, 2]
       s.plat.claims 0xFFFF = true ∧ s.plat.claims (0xFFFF + 1) = true ∧ s.plat.answers = 1 :: 2 :: []) ∧
      (let s := withPorts 0xFFFF 0xFFFF [1]
       s.plat.claims 0xFFFF = true ∧ s.plat.claims (0xFFFF + 1) = false ∧ s.plat.answers = 1 :: []) ∧
      (let s := withPorts 0 0 [1]
       s.plat.claims 0xFFFF = false ∧ s.plat.claims (0xFFFF + 1) = true ∧ s.plat.answers = 1 :: []) :=
  ⟨⟨0xFF, rfl, rfl⟩, by decide, by decide, by decide, by decide⟩

theorem witness_AddressTransfers :
    (Instr.ldsGwMp .si (.direct 0) = .ldsGwMp .si (.direct 0) ∧ SReg.ds = .ds) ∧
      (Instr.lesGwMp .di (.direct 0) = .lesGwMp .di (.direct 0) ∧ SReg.es = .es) := ⟨⟨rfl, rfl⟩, rfl, rfl⟩

/-- The greatest and the least quotients that fit, at each width. -/
theorem witness_DivisionResults :
    (let s := withRegs { Regs.zero with ax := 0x00FF, bx := 0x0001 }
     let d := (s.readRM8 (.reg .bl)).1.toNat
     d ≠ 0 ∧ s.regs.ax.toNat / d ≤ 0xFF) ∧
      (let s := withRegs { Regs.zero with dx := 0xFFFE, ax := 0xFFFF, bx := 0xFFFF }
       let d := (s.readRM16 (.reg .bx)).1.toNat
       d ≠ 0 ∧ (s.regs.dx.toNat * 2 ^ 16 + s.regs.ax.toNat) / d ≤ 0xFFFF) ∧
      (let s := withRegs { Regs.zero with ax := 0xFF81, bx := 0x0001 }
       let d := (s.readRM8 (.reg .bl)).1.toInt
       d ≠ 0 ∧ s.regs.ax.toInt.tdiv d = -127) ∧
      (let s := withRegs { Regs.zero with dx := 0x0000, ax := 0x7FFF, bx := 0x0001 }
       let d := (s.readRM16 (.reg .bx)).1.toInt
       d ≠ 0 ∧ (s.regs.dx ++ s.regs.ax).toInt.tdiv d = 32767) := by
  decide

/-- Each divide error at the least quotient that does not fit, and the divisor 0. -/
theorem witness_DivideErrors :
    State.reset.MemOk ∧
      (let s := withRegs { Regs.zero with ax := 0x0100, bx := 0x0001 }
       0xFF < s.regs.ax.toNat / (s.readRM8 (.reg .bl)).1.toNat ∧
         127 < s.regs.ax.toInt.tdiv (s.readRM8 (.reg .bl)).1.toInt) ∧
      (State.reset.readRM8 (.reg .bl)).1 = 0 ∧
      (let s := withRegs { Regs.zero with dx := 0xFFFF, ax := 0x8000, bx := 0x0001 }
       (s.regs.dx ++ s.regs.ax).toInt.tdiv (s.readRM16 (.reg .bx)).1.toInt < -32767 ∧
         0xFFFF < (s.regs.dx.toNat * 2 ^ 16 + s.regs.ax.toNat) / (s.readRM16 (.reg .bx)).1.toNat) ∧
      (Instr.aamIb 0 = .aamIb 0 ∧ ([] : List Reg16) = []) :=
  ⟨rfl, by decide, rfl, by decide, rfl, rfl⟩

theorem witness_DecimalAdjust : (1 : Byte) ≠ 0 := by decide

theorem witness_StringsOnce : State.reset.MemOk ∧ State.reset.eu.repPrefix = none := ⟨rfl, rfl⟩

theorem witness_RepetitionRule :
    (State.reset.setRepPrefix .repne).eu.repPrefix = some .repne ∧ (State.reset.setRepPrefix .repne).regs.cx = 0 ∧
      ((withRegs { Regs.zero with cx := 0xFFFF }).setRepPrefix .repe).regs.cx ≠ 0 ∧
      (let s := withRegs { Regs.zero with cx := 1 }
       let r : RepState := { prim := .stos, width := .byte, cond := .repe, seg := .ds, resumeIp := 0 }
       s.regs.cx - 1 = 0 ∧ ¬(r.prim = .cmps ∨ r.prim = .scas)) ∧
      (let r : RepState := { prim := .scas, width := .word, cond := .repne, seg := .ds, resumeIp := 0 }
       let s : State := { withRegs { Regs.zero with cx := 1 } with eu := { Eu.idle with rep := some r } }
       s.refused = false ∧ s.nextInput.reset = false ∧ s.eu.decoding = false ∧ s.eu.halted = false ∧
         s.eu.waiting = false ∧ s.eu.rep = some r ∧
         s.beginStep.boundaryCheck.1 = false) := by
  decide

theorem witness_LoopsCountCX :
    (Instr.loopeJb 0xFE = .loopeJb 0xFE ∧ State.reset.flags.zf = State.reset.flags.zf) ∧
      (Instr.loopneJb 0xFE = .loopneJb 0xFE ∧ true = !State.reset.flags.zf) := ⟨⟨rfl, rfl⟩, rfl, rfl⟩

theorem witness_CallsPushReturn : State.reset.MemOk := rfl

theorem witness_SoftwareInterrupts :
    State.reset.MemOk ∧ (Instr.into = .into ∧ (4 : Byte) = 4 ∧
        ({ State.reset with flags := { Flags.clear with ofl := true } } : State).flags.ofl = true) ∧
      State.reset.flags.ofl = false := ⟨rfl, ⟨rfl, rfl, rfl⟩, rfl⟩

/-- The first and the last vector, with a stack above the table. -/
theorem witness_EntryFollowsVector :
    let s : State := { withRegs { Regs.zero with sp := 0x0006 } with sregs := { SRegs.reset with ss := 0x0040 } }
    s.MemOk ∧ (StackMissesVector s 0x00 ∧ StackMissesVector s 0xFF) ∧
      (∀ j < 4, s.IsRam (lin 0 ((zext16 0x00 <<< 2) + BitVec.ofNat 16 j))) ∧
      ∀ j < 4, s.IsRam (lin 0 ((zext16 0xFF <<< 2) + BitVec.ofNat 16 j)) :=
  ⟨rfl, ⟨by unfold StackMissesVector; decide, by unfold StackMissesVector; decide⟩, fun _ _ => rfl, fun _ _ => rfl⟩

theorem witness_IretUndoesEntry :
    State.reset.MemOk ∧ (∀ i < 6, State.reset.IsRam (lin 0 (State.reset.regs.sp - 6 + BitVec.ofNat 16 i))) ∧
      exec (.intIb 0x21) State.reset = .next (State.reset.softInterrupt 0x21) := ⟨rfl, fun _ _ => rfl, rfl⟩

/-- NMI alone; INTR alone; the trap alone; nothing; and NMI or INTR with the trap. -/
theorem witness_BoundaryPriority :
    let eu : Eu := { Eu.idle with nmiLatch := true }
    let tr : Eu := { Eu.idle with trapArmed := true }
    let fl : Flags := { Flags.clear with ifl := true }
    let pins : StepInput := { StepInput.idle with intr := some 8 }
    (eu.nmiLatch = true ∧ eu.inhibitAll = false ∧ eu.trapArmed = false) ∧
      (fl.ifl = true ∧ Eu.idle.inhibitAll = false ∧ Eu.idle.inhibitIntr = false ∧ pins.intr = some 8 ∧
        Eu.idle.nmiLatch = false) ∧
      (tr.trapArmed = true ∧ tr.inhibitAll = false ∧ tr.rep.isSome = false ∧ tr.nmiLatch = false) ∧
      ({ tr with nmiLatch := true } : Eu).nmiLatch = true ∧ Params.initial.trapWithInterrupt = .lost ∧
      ({ Params.initial with trapWithInterrupt := .trapFirst } : Params).trapWithInterrupt = .trapFirst ∧
      ({ Params.initial with trapWithInterrupt := .trapAfterEntry } : Params).trapWithInterrupt = .trapAfterEntry := by
  decide

theorem witness_BoundaryEntries : State.reset.MemOk := rfl

/-- Halted at the byte after an HLT; once with IF clear, once with IF set and an INTR. -/
def haltedState : State := { State.reset with eu := { Eu.idle with halted := true } }
def wokenState : State :=
  { haltedState with flags := { Flags.clear with ifl := true }, inputs := [{ StepInput.idle with intr := some 9 }] }

/-- Waiting, with TEST asserted or not. -/
def waitingState (test : Bool) : State :=
  { State.reset with eu := { Eu.idle with waiting := true }, inputs := [{ StepInput.idle with test := test, prefetch := 1 }] }

theorem witness_HaltUntilInterrupt :
    (haltedState.refused = false ∧ haltedState.eu.decoding = false ∧ haltedState.eu.halted = true ∧
        haltedState.flags.ifl = false ∧ haltedState.eu.trapArmed = false ∧ haltedState.eu.nmiLatch = false ∧
        haltedState.nextInput.nmi = false ∧ haltedState.nextInput.reset = false) ∧
      (wokenState.Inv ∧ wokenState.refused = false ∧ wokenState.eu.decoding = false ∧ wokenState.eu.halted = true ∧
        wokenState.eu.waiting = false ∧ wokenState.eu.rep = none ∧ wokenState.flags.ifl = true ∧
        wokenState.eu.inhibitAll = false ∧ wokenState.eu.inhibitIntr = false ∧ wokenState.eu.trapArmed = false ∧
        wokenState.eu.nmiLatch = false ∧ wokenState.nextInput.nmi = false ∧ wokenState.nextInput.reset = false ∧
        wokenState.nextInput.intr = some 9) ∧
      ∀ x : Bool, let s := waitingState x
        s.Inv ∧ s.refused = false ∧ s.eu.decoding = false ∧ s.eu.halted = false ∧ s.eu.waiting = true ∧
          s.nextInput.reset = false ∧ s.beginStep.boundaryCheck.1 = false ∧ s.nextInput.test = x := by
  unfold State.Inv State.MemOk State.QueueOk State.IpOk State.RepOk State.RecordOk; decide

/-- A halted core with no interrupt taken, IF set: no request, and an INTR in a shadow; and with one taken: NMI, an armed
trap. -/
theorem witness_HaltUntilInterrupt_taken :
    ∀ x ∈ [({ wokenState with inputs := [] }, false), ({ wokenState with eu := { haltedState.eu with inhibitIntr := true } }, false),
        ({ haltedState with inputs := [{ StepInput.idle with nmi := true }] }, true),
        ({ haltedState with eu := { haltedState.eu with trapArmed := true } }, true)],
      x.1.refused = false ∧ x.1.nextInput.reset = false ∧ x.1.eu.decoding = false ∧ x.1.eu.halted = true ∧
        x.1.beginStep.boundaryCheck.1 = x.2 := by
  decide

theorem witness_HaltWaitEscape :
    State.reset.pins.test = true ∧ ({ State.reset with pins := { StepInput.idle with test := false } } : State).pins.test = false ∧
      Instr.esc7E ∈ instrEsc ∧ State.reset.cfg.escMemRead = false ∧
      ({ Params.initial with escMemRead := true } : Params).escMemRead = true :=
  ⟨rfl, rfl, by simp [instrEsc], rfl, rfl⟩

theorem witness_PrefixesSetRecord :
    (Instr.prefixES = .prefixES ∧ SReg.es = .es) ∧ (Instr.prefixDS = .prefixDS ∧ SReg.ds = .ds) :=
  ⟨⟨rfl, rfl⟩, rfl, rfl⟩

/-- The state whose next step runs NOP. -/
def nopState : State := State.reset.withFetchWord 8 0x90

theorem nopState_inv : nopState.Inv := by
  unfold State.Inv State.MemOk State.QueueOk State.IpOk State.RepOk State.RecordOk; decide

theorem witness_RefusalSetsMark :
    (State.reset.setRepPrefix .repe).eu.repPrefix.isSome = true ∧
      Instr.divEb (.reg .bl) ∈ [Instr.mulEb (.reg .bl), .imulEb (.reg .bl), .divEb (.reg .bl), .idivEb (.reg .bl),
        .mulEw (.reg .bx), .imulEw (.reg .bx), .divEw (.reg .bx), .idivEw (.reg .bx)] ∧
      State.reset.refused = false ∧ State.reset.markRefused.refused = true ∧ nopState.refused = false := by
  decide

theorem witness_ResetAction :
    let s : State := { haltedState with inputs := [{ StepInput.idle with reset := true }] }
    s.refused = false ∧ s.nextInput.reset = true := ⟨rfl, rfl⟩

theorem witness_StepKeepsInvariant : nopState.Inv ∧ next (step nopState) (fun _ => true) = true :=
  ⟨nopState_inv, by decide⟩

theorem witness_StepRunsDecoded :
    nopState.refused = false ∧ nopState.nextInput.reset = false ∧ nopState.eu.decoding = false ∧
      nopState.beginStep.boundaryCheck.1 = false ∧
      nopState.beginStep.boundaryCheck.2.eu.halted = false ∧ nopState.beginStep.boundaryCheck.2.eu.waiting = false ∧
      nopState.beginStep.boundaryCheck.2.eu.rep = none ∧
      (match decode nopState.beginStep.boundaryCheck.2.beginInstruction.window with
        | .ok (i, rest) => i = .nop && rest.length == 5
        | .error _ => false) = true ∧ Instr.nop.isPrefix = false := by
  decide

/-- Interrupts due at a boundary: NMI where an instruction would run and where the core waits, INTR where it is halted, NMI
with a trap. -/
theorem witness_StepRunsDecoded_taken :
    ∀ s ∈ [{ nopState with inputs := [{ StepInput.idle with nmi := true }] },
        { waitingState false with inputs := [{ StepInput.idle with nmi := true }] }, wokenState,
        { nopState with eu := { nopState.eu with nmiLatch := true, trapArmed := true } }],
      s.refused = false ∧ s.nextInput.reset = false ∧ s.eu.decoding = false ∧ s.beginStep.boundaryCheck.1 = true := by
  decide

theorem witness_PrefixGoesOn :
    (let s := start [0xF0, 0x90] []
     (match decode s.window with
      | .ok (i, rest) => i = .lock && rest.length == 5
      | .error _ => false) = true ∧ Instr.lock.isPrefix = true ∧ exec .lock (s.consume 1) = .next (s.consume 1).setLock) ∧
      let s : State := { State.reset with eu := { Eu.idle with decoding := true, segOverride := some .cs } }
      s.refused = false ∧ s.nextInput.reset = false ∧ s.eu.decoding = true :=
  ⟨⟨by decide, rfl, rfl⟩, rfl, rfl, rfl⟩

/-- JMP far with its opcode byte in the preload slot, two bytes in the queue and the last two in memory; memory holds other
bytes where the first three came from. -/
def heldState : State :=
  { start [0x90, 0x90, 0x90, 0x00, 0x10] [] with
    biu := { Biu.idle 0x0103 with preload := some 0xEA, queue := [0x05, 0x00], fetch := .pausedFull } }

theorem witness_StepRunsBytesInMemory :
    (nopState.Inv ∧ nopState.refused = false ∧ nopState.nextInput = StepInput.idle ∧ nopState.eu.decoding = false ∧
        nopState.biu.codeInFlight = false ∧ nopState.eu.halted = false ∧ nopState.eu.waiting = false ∧
        nopState.eu.rep = none ∧ nopState.eu.nmiLatch = false ∧ nopState.eu.trapArmed = false ∧ Instr.nop.wf = true ∧
        Instr.nop.isPrefix = false ∧
        (∀ k < 6, nopState.IsRam (lin nopState.sregs.cs (nopState.biu.pc + BitVec.ofNat 16 k))) ∧
        (∀ k, (h : k < (encode .nop).length) →
          nopState.biu.held[k]?.getD (nopState.mem.read (lin nopState.sregs.cs
            (nopState.biu.pc + BitVec.ofNat 16 (k - nopState.biu.held.length)))) = (encode .nop)[k]) ∧
        nopState.biu.held = []) ∧
      let s := heldState
      let i : Instr := .jmpAp 0x0005 0x1000
      s.Inv ∧ s.refused = false ∧ s.nextInput = StepInput.idle ∧ s.eu.decoding = false ∧ s.biu.codeInFlight = false ∧
        s.eu.halted = false ∧ s.eu.waiting = false ∧ s.eu.rep = none ∧ s.eu.nmiLatch = false ∧
        s.eu.trapArmed = false ∧ i.wf = true ∧ i.isPrefix = false ∧
        (∀ k < 6, s.IsRam (lin s.sregs.cs (s.biu.pc + BitVec.ofNat 16 k))) ∧
        ∀ k, (h : k < (encode i).length) →
          s.biu.held[k]?.getD (s.mem.read (lin s.sregs.cs (s.biu.pc + BitVec.ofNat 16 (k - s.biu.held.length)))) =
            (encode i)[k] :=
  ⟨⟨nopState_inv, rfl, rfl, rfl, rfl, rfl, rfl, rfl, rfl, rfl, rfl, rfl, fun _ _ => rfl, by decide, rfl⟩,
    by unfold State.Inv State.MemOk State.QueueOk State.IpOk State.RepOk State.RecordOk; decide, rfl, rfl, rfl, rfl, rfl,
    rfl, rfl, rfl, rfl, rfl, rfl, fun _ _ => rfl, by decide⟩

theorem witness_WritersOfControlState :
    (exec (.jmpAp 0 0x1000) State.reset = .next (State.reset.jumpFar 0x1000 0) ∧
        (State.reset.jumpFar 0x1000 0).sregs.cs ≠ State.reset.sregs.cs) ∧
      exec .std State.reset = .next (State.reset.setFlags { Flags.clear with df := true }) ∧
      (State.reset.setFlags { Flags.clear with df := true }).flags.df ≠ State.reset.flags.df ∧
      (∃ t, exec (.movSSEw (.reg .ax)) (withRegs { Regs.zero with ax := 1 }) = .next t ∧ t.sregs.ss ≠ SRegs.reset.ss) ∧
      (∃ t, exec (.movESEw (.reg .ax)) (withRegs { Regs.zero with ax := 1 }) = .next t ∧ t.sregs.es ≠ SRegs.reset.es) ∧
      ∃ t, exec .popDS State.reset = .next t ∧ t.sregs.ds ≠ SRegs.reset.ds :=
  ⟨⟨rfl, by decide⟩, rfl, by decide, ⟨_, rfl, by decide⟩, ⟨_, rfl, by decide⟩, _, rfl, by decide⟩

theorem witness_TickKeepsBusInvariant :
    State.reset.biu.Inv ∧ ({ core := State.reset, phase := .boundary, nmiEdge := false } : CycleCore).core.biu.Inv :=
  ⟨reset_biu_inv, reset_biu_inv⟩

theorem witness_TickKeepsInstructionPointer :
    State.reset.biu.Inv ∧ State.reset.biu.queueWait ∈ [none, some .fetchNext] ∧
      ∀ x ∈ [EuAction.fetchNext, .suspend], x ≠ .popFirst ∧ x ≠ .popAfterPrefix ∧ x ≠ .popNext ∧ ∀ ip, x ≠ .flush ip :=
  ⟨reset_biu_inv, by decide, by simp⟩

/-- An idle bus: queue empty, with bytes, and with a byte in the preload slot. -/
theorem witness_CommandSignals :
    ∀ b ∈ [Biu.idle 0, { Biu.idle 0 with queue := [1] }, { Biu.idle 0 with preload := some 1 }],
      b.Inv ∧ b.queueWait = none ∧ b.euBusy = false := by
  intro b hb
  have h : b ∈ [Biu.idle 0, { Biu.idle 0 with queue := [1] }, { Biu.idle 0 with preload := some 1 }] →
      busOk b = true ∧ b.queueWait = none ∧ b.euBusy = false := by
    revert b; decide
  exact ⟨bus_inv (h hb).1, (h hb).2⟩

/-- In the T2 of the first half of a word; and with a code-fetch address cycle in Tr, Ts or T0. -/
def secondHalf : Request :=
  { kind := .memRead, addr := 0x00301, data := 0, operandSize := .word, transferN := 2, finalTransfer := true }
def wordBiu : Biu :=
  { Biu.idle 0 with tState := .t2, status := .memRead, finalTransfer := false, nextHalf := some secondHalf }
def addressing (t : TState) (st : BusStatus) (x : TaState) : Biu :=
  { Biu.idle 0x0110 with tState := t, status := st, ta := x, owner := some (Request.code 0 0x0110) }

theorem witness_BusTimings :
    (wordBiu.Inv ∧ wordBiu.tState = .t2 ∧ wordBiu.finalTransfer = false ∧ wordBiu.nextHalf = some secondHalf ∧
        wordBiu.ta = .td ∧ wordBiu.euWaiting = none) ∧
      ((State.reset.biu).Inv ∧ (State.reset.biu).euFree = true ∧ (State.reset.biu).ta = .td ∧ (State.reset.biu).finalTransfer = true) ∧
      ∀ b ∈ [addressing .ti .passive .tr, addressing .ti .passive .t0, addressing .t3 .codeFetch .tr,
          addressing .tw .codeFetch .ts, addressing .t4 .codeFetch .t0],
        b.Inv ∧ b.euFree = true ∧ Request.isCode b.owner = true ∧ b.tState ∈ [TState.t3, .tw, .t4, .ti] := by
  refine ⟨⟨bus_inv (by decide), by decide⟩, ⟨reset_biu_inv, by decide⟩, ?_⟩
  intro b hb
  have h : busOk b = true ∧ b.euFree = true ∧ Request.isCode b.owner = true ∧ b.tState ∈ [TState.t3, .tw, .t4, .ti] := by
    revert b; decide
  exact ⟨bus_inv h.1, h.2⟩

/-- With the pipeline at rest, each T-state and fetch state of the clauses on the fetch decision, at the lengths where they
meet. -/
def deciding (t : TState) (st : BusStatus) (f : FetchState) (n : Nat) : Biu :=
  { Biu.idle 0x0110 with tState := t, status := st, fetch := f, queue := List.replicate n 0x90 }

theorem witness_BusTimings_decision :
    ∀ b ∈ [deciding .ti .passive .normal 3, deciding .ti .passive .normal 4, deciding .t2 .memRead .normal 3,
        deciding .t2 .memRead .normal 4, deciding .t2 .codeFetch .normal 2, deciding .t2 .codeFetch .normal 3,
        deciding .ti .passive (.delayed 0) 3, deciding .ti .passive (.delayed 1) 3, deciding .t4 .memRead .pausedFull 4,
        deciding .ti .passive .pausedFull 4, deciding .ti .passive .suspended 1, deciding .ti .passive .halted 1],
      b.Inv ∧ b.queueWait = none ∧ b.haltPending = none ∧ b.ta = .td ∧ b.euWaiting = none ∧ b.pending = .none ∧
        b.finalTransfer = true := by
  intro b hb
  have h : busOk b = true ∧ b.queueWait = none ∧ b.haltPending = none ∧ b.ta = .td ∧ b.euWaiting = none ∧
      b.pending = .none ∧ b.finalTransfer = true := by
    revert b; decide
  exact ⟨bus_inv h.1, h.2⟩

end Sys2Proof.Tests
end

section
/-! What each operation of the model can write, said once, and from it what every instruction can write: the frame of the
state that the claims on control state and on the step's invariant use. -/

namespace Sys2Proof.Proofs

open Sys2Proof Sys2Proof.Machine Sys2Proof.Laws

/-! ### The frame -/

/-- A part of the state that only the instructions named in 10_state.md R105 and R110 write. -/
inductive Control where
  | sreg (r : SReg)
  | tf
  | ifl
  | df

/-- The part has the same value in both states. -/
def Control.Same (s t : State) : Control → Prop
  | .sreg r => t.sreg r = s.sreg r
  | .tf => t.flags.tf = s.flags.tf
  | .ifl => t.flags.ifl = s.flags.ifl
  | .df => t.flags.df = s.flags.df

/-- The instruction stream inside a step: no code fetch is under way, the queue is within its size, and the fetch pointer is
past IP by the bytes held (20_memory.md R229, R247). -/
structure StreamOk (s : State) : Prop where
  atRest : s.biu.codeExpected = false
  room : s.biu.queue.length ≤ Config.queueSize
  pc : s.biu.pc = s.ip + BitVec.ofNat 16 s.biu.held.length

/-- From `s` to `t` no control but those of `W` is written, memory stays canonical, the instruction stream stays in order,
and no run of prefixes is begun or ended. -/
structure Frame (W : Control → Prop) (s t : State) : Prop where
  same : ∀ c, ¬ W c → c.Same s t
  memOk : s.MemOk → t.MemOk
  stream : StreamOk s → StreamOk t
  decoding : t.eu.decoding = s.eu.decoding

/-- A frame in which a repetition in progress at most ends. -/
structure Keeps (W : Control → Prop) (s t : State) : Prop extends Frame W s t where
  rep : t.eu.rep = s.eu.rep ∨ t.eu.rep = none

variable {W : Control → Prop} {s t u : State}

theorem Control.Same.trans {c : Control} (h : c.Same s t) (k : c.Same t u) : c.Same s u := by
  cases c <;> exact Eq.trans k h

theorem Frame.trans (h : Frame W s t) (k : Frame W t u) : Frame W s u where
  same c hc := (h.same c hc).trans (k.same c hc)
  memOk := k.memOk ∘ h.memOk
  stream := k.stream ∘ h.stream
  decoding := k.decoding.trans h.decoding

theorem Keeps.trans (h : Keeps W s t) (k : Keeps W t u) : Keeps W s u where
  toFrame := h.toFrame.trans k.toFrame
  rep := k.rep.elim (fun e => e ▸ h.rep) .inr

/-- The three control flags of `f` and `g` agree. -/
def SameControlFlags (f g : Flags) : Prop := f.tf = g.tf ∧ f.ifl = g.ifl ∧ f.df = g.df

theorem StreamOk.of_same (h : StreamOk s) (hb : t.biu = s.biu) (hi : t.ip = s.ip) : StreamOk t := by
  obtain ⟨h1, h2, h3⟩ := h
  constructor <;> simpa only [hb, hi]

/-- A write of registers, flags, draws, answers or the record of transactions. -/
theorem Keeps.of_same (hs : t.sregs = s.sregs) (hf : SameControlFlags t.flags s.flags) (hm : t.mem = s.mem)
    (hi : t.ip = s.ip) (hb : t.biu = s.biu) (he : t.eu = s.eu) : Keeps W s t where
  same c _ := by
    obtain ⟨h1, h2, h3⟩ := hf
    cases c <;> simp only [Control.Same, State.sreg, *]
  memOk h := MemOk.of_mem h hm
  stream h := h.of_same hb hi
  decoding := by rw [he]
  rep := .inl (by rw [he])

theorem Keeps.refl (s : State) : Keeps W s s := .of_same rfl ⟨rfl, rfl, rfl⟩ rfl rfl rfl rfl

theorem Keeps.of_readOnly (h : ReadOnly s t) : Keeps W s t :=
  .of_same h.sregs (by simp only [h.flags, SameControlFlags, and_self]) h.mem h.ip h.biu h.eu

/-- Latches of the EU other than the repetition and the mark of a run of prefixes are free to change. -/
theorem keeps_setEu (s : State) (e : Eu) (hd : e.decoding = s.eu.decoding := by exact rfl)
    (hr : e.rep = s.eu.rep ∨ e.rep = none := by exact .inl rfl) : Keeps W s { s with eu := e } where
  same c _ := by cases c <;> rfl
  memOk := id
  stream h := h.of_same rfl rfl
  decoding := hd
  rep := hr

/-! ### The operations -/

theorem keeps_setReg16 (s : State) (r : Reg16) (v : Word) : Keeps W s (s.setReg16 r v) :=
  .of_same rfl ⟨rfl, rfl, rfl⟩ rfl rfl rfl rfl

theorem keeps_setReg8 (s : State) (r : Reg8) (v : Byte) : Keeps W s (s.setReg8 r v) :=
  .of_same rfl ⟨rfl, rfl, rfl⟩ rfl rfl rfl rfl

/-- Arithmetic flags alone are written; that the controls stay holds by definition for most flag functions. -/
theorem keeps_setFlags (s : State) (f : Flags) (h : SameControlFlags f s.flags := by exact ⟨rfl, rfl, rfl⟩) :
    Keeps W s (s.setFlags f) := .of_same rfl h rfl rfl rfl rfl

theorem keeps_drawFlag (s : State) (n : Flag) : Keeps W s (s.drawFlag n) :=
  .of_same rfl (by cases n <;> exact ⟨rfl, rfl, rfl⟩) rfl rfl rfl rfl

theorem keeps_drawFlags (s : State) (l : List Flag) : Keeps W s (s.drawFlags l) := by
  induction l generalizing s with
  | nil => exact .refl s
  | cons n l ih => exact (keeps_drawFlag s n).trans (ih _)

theorem keeps_drawReg16 (s : State) (r : Reg16) : Keeps W s (s.drawReg16 r) :=
  .of_same rfl ⟨rfl, rfl, rfl⟩ rfl rfl rfl rfl

theorem keeps_drawBit (s : State) : Keeps W s s.drawBit.2 := .of_same rfl ⟨rfl, rfl, rfl⟩ rfl rfl rfl rfl

theorem keeps_memWrite (s : State) (a : LinAddr) (v : Byte) (f : Bool) : Keeps W s (s.memWrite a v f) where
  same c _ := by cases c <;> rfl
  memOk h := memOk_memWrite h a v f
  stream h := h.of_same rfl rfl
  decoding := rfl
  rep := .inl rfl

theorem keeps_writeB (s : State) (seg off : Word) (v : Byte) : Keeps W s (s.writeB seg off v) := keeps_memWrite ..

theorem keeps_writeW (s : State) (seg off v : Word) : Keeps W s (s.writeW seg off v) :=
  (keeps_memWrite s ..).trans (keeps_memWrite ..)

theorem keeps_ioWriteB (s : State) (p : Word) (v : Byte) : Keeps W s (s.ioWriteB p v) :=
  .of_readOnly (readOnly_record ..)

theorem keeps_ioWriteW (s : State) (p v : Word) : Keeps W s (s.ioWriteW p v) :=
  .of_readOnly ((readOnly_record s ..).trans (readOnly_record ..))

theorem keeps_push (s : State) (v : Word) : Keeps W s (s.push v) := (keeps_setReg16 s ..).trans (keeps_writeW ..)

theorem keeps_pop (s : State) : Keeps W s s.pop.2 :=
  (Keeps.of_readOnly (readOnly_readW s ..)).trans (keeps_setReg16 ..)

theorem keeps_readRM8 (s : State) (m : RM Reg8) : Keeps W s (s.readRM8 m).2 := .of_readOnly (readOnly_readRM8 s m)

theorem keeps_readRM16 (s : State) (m : RM Reg16) : Keeps W s (s.readRM16 m).2 := .of_readOnly (readOnly_readRM16 s m)

theorem keeps_writeRM8 (s : State) (m : RM Reg8) (v : Byte) : Keeps W s (s.writeRM8 m v) := by
  cases m with
  | reg r => exact keeps_setReg8 ..
  | mem a => exact keeps_writeB ..

theorem keeps_writeRM16 (s : State) (m : RM Reg16) (v : Word) : Keeps W s (s.writeRM16 m v) := by
  cases m with
  | reg r => exact keeps_setReg16 ..
  | mem a => exact keeps_writeW ..

theorem keeps_setSReg (s : State) {r : SReg} (h : W (.sreg r)) (v : Word) : Keeps W s (s.setSReg r v) where
  same c hc := by
    cases c with
    | sreg q => exact sregs_get_set_ne s.sregs v fun e => hc (e ▸ h)
    | _ => rfl
  memOk := id
  stream k := k.of_same rfl rfl
  decoding := rfl
  rep := .inl rfl

theorem keeps_shadowLoad (s : State) : Keeps W s s.shadowLoad := keeps_setEu s _

/-- A jump empties the BIU and sets its fetch pointer to the new IP, whatever the stream was (44_control_transfer.md
R800). -/
theorem streamOk_jump (s : State) (ip : Word) : StreamOk (s.jump ip) where
  atRest := by
    have h : (s.biu.flush ip).codeExpected =
        (s.biu.codeInFlight && !(s.biu.discarded || s.biu.codeInFlight || Request.isCode s.biu.committed)) := rfl
    simp only [State.jump, h]
    cases s.biu.codeInFlight <;> simp
  room := Nat.zero_le _
  pc := (BitVec.add_zero ip).symm

theorem keeps_jump (s : State) (ip : Word) : Keeps W s (s.jump ip) where
  same c _ := by cases c <;> rfl
  memOk := id
  stream _ := streamOk_jump s ip
  decoding := rfl
  rep := .inl rfl

theorem keeps_jumpFar (s : State) (h : W (.sreg .cs)) (cs ip : Word) : Keeps W s (s.jumpFar cs ip) :=
  (keeps_setSReg s h cs).trans (keeps_jump ..)

/-- Flags written together with some of the controls. -/
theorem keeps_setControls (s : State) (f : Flags) (ht : W .tf ∨ f.tf = s.flags.tf)
    (hi : W .ifl ∨ f.ifl = s.flags.ifl) (hd : W .df ∨ f.df = s.flags.df) : Keeps W s (s.setFlags f) where
  same c hc := by
    cases c with
    | sreg r => rfl
    | tf => exact ht.resolve_left hc
    | ifl => exact hi.resolve_left hc
    | df => exact hd.resolve_left hc
  memOk := id
  stream k := k.of_same rfl rfl
  decoding := rfl
  rep := .inl rfl

/-! ### The binary, unary and shift forms -/

theorem sameControlFlags_alu {w : Nat} (op : AluOp) (f : Flags) (a b : BitVec w) :
    SameControlFlags (op.flags f a b) f := by
  cases op <;> exact ⟨rfl, rfl, rfl⟩

theorem keeps_aluFlags {w : Nat} (s : State) (op : AluOp) (a b : BitVec w) : Keeps W s (s.aluFlags op a b) := by
  have h : Keeps W s (s.setFlags (op.flags s.flags a b)) := keeps_setFlags s _ (sameControlFlags_alu ..)
  unfold State.aluFlags
  split
  · exact h.trans (keeps_drawFlag ..)
  · exact h

theorem keeps_aluRM8 (op : AluOp) (m : RM Reg8) (src : State → Byte) (s : State) : Keeps W s (aluRM8 op m src s) := by
  have h := (keeps_readRM8 (W := W) s m).trans (keeps_aluFlags _ op (s.readRM8 m).1 (src (s.readRM8 m).2))
  unfold aluRM8
  split
  · exact h.trans (keeps_writeRM8 ..)
  · exact h

theorem keeps_aluRM16 (op : AluOp) (m : RM Reg16) (src : State → Word) (s : State) :
    Keeps W s (aluRM16 op m src s) := by
  have h := (keeps_readRM16 (W := W) s m).trans (keeps_aluFlags _ op (s.readRM16 m).1 (src (s.readRM16 m).2))
  unfold aluRM16
  split
  · exact h.trans (keeps_writeRM16 ..)
  · exact h

theorem keeps_aluGbEb (op : AluOp) (g : Reg8) (m : RM Reg8) (s : State) : Keeps W s (aluGbEb op g m s) := by
  have h := (keeps_readRM8 (W := W) s m).trans (keeps_aluFlags _ op ((s.readRM8 m).2.reg8 g) (s.readRM8 m).1)
  unfold aluGbEb
  split
  · exact h.trans (keeps_setReg8 ..)
  · exact h

theorem keeps_aluGwEw (op : AluOp) (g : Reg16) (m : RM Reg16) (s : State) : Keeps W s (aluGwEw op g m s) := by
  have h := (keeps_readRM16 (W := W) s m).trans (keeps_aluFlags _ op ((s.readRM16 m).2.reg16 g) (s.readRM16 m).1)
  unfold aluGwEw
  split
  · exact h.trans (keeps_setReg16 ..)
  · exact h

theorem keeps_unaryRM8 (r : Byte → Byte) (f : Flags → Byte → Flags) (m : RM Reg8) (s : State)
    (hf : ∀ g a, SameControlFlags (f g a) g := by exact fun _ _ => ⟨rfl, rfl, rfl⟩) :
    Keeps W s (unaryRM8 r f m s) :=
  ((keeps_readRM8 s m).trans (keeps_setFlags _ _ (hf ..))).trans (keeps_writeRM8 ..)

theorem keeps_unaryRM16 (r : Word → Word) (f : Flags → Word → Flags) (m : RM Reg16) (s : State)
    (hf : ∀ g a, SameControlFlags (f g a) g := by exact fun _ _ => ⟨rfl, rfl, rfl⟩) :
    Keeps W s (unaryRM16 r f m s) :=
  ((keeps_readRM16 s m).trans (keeps_setFlags _ _ (hf ..))).trans (keeps_writeRM16 ..)

theorem keeps_shiftFlags {w : Nat} (s : State) (op : ShiftOp) (n : Nat) (v : BitVec w) :
    Keeps W s (s.shiftFlags op n v) := by
  have h : ∀ t : State, Keeps W s t →
      Keeps W s (if op.isShift then (t.setFlags (szp t.flags (op.steps n v s.flags.cf).1)).drawFlag .af else t) := by
    intro t k
    split
    · exact (k.trans (keeps_setFlags t _)).trans (keeps_drawFlag ..)
    · exact k
  refine h _ ?_
  split
  · exact (keeps_setFlags s _).trans (keeps_setFlags _ _)
  · exact (keeps_setFlags s _).trans (keeps_drawFlag ..)

theorem keeps_shiftRM8 (op : ShiftOp) (n : Nat) (m : RM Reg8) (s : State) : Keeps W s (shiftRM8 op n m s) := by
  have h := keeps_readRM8 (W := W) s m
  unfold shiftRM8
  split
  · exact h
  · exact (h.trans (keeps_shiftFlags ..)).trans (keeps_writeRM8 ..)

theorem keeps_shiftRM16 (op : ShiftOp) (n : Nat) (m : RM Reg16) (s : State) : Keeps W s (shiftRM16 op n m s) := by
  have h := keeps_readRM16 (W := W) s m
  unfold shiftRM16
  split
  · exact h
  · exact (h.trans (keeps_shiftFlags ..)).trans (keeps_writeRM16 ..)

/-! ### Multiplication and decimal adjustment -/

/-- A word register and arithmetic flags written, then flags drawn: the end of the multiplications and adjustments. -/
theorem keeps_setFlags_drawFlags (s : State) (f : Flags) (l : List Flag)
    (h : SameControlFlags f s.flags := by exact ⟨rfl, rfl, rfl⟩) : Keeps W s ((s.setFlags f).drawFlags l) :=
  (keeps_setFlags s f h).trans (keeps_drawFlags ..)

theorem keeps_mul8 (m : RM Reg8) (s : State) : Keeps W s (mul8 m s) :=
  ((keeps_readRM8 s m).trans (keeps_setReg16 ..)).trans (keeps_setFlags_drawFlags _ _ _)

theorem keeps_imul8 (m : RM Reg8) (s : State) : Keeps W s (imul8 m s) :=
  ((keeps_readRM8 s m).trans (keeps_setReg16 ..)).trans (keeps_setFlags_drawFlags _ _ _)

theorem keeps_setDXAX (s : State) (p : BitVec 32) : Keeps W s (s.setDXAX p) :=
  (keeps_setReg16 s ..).trans (keeps_setReg16 ..)

theorem keeps_mul16 (m : RM Reg16) (s : State) : Keeps W s (mul16 m s) :=
  ((keeps_readRM16 s m).trans (keeps_setDXAX ..)).trans (keeps_setFlags_drawFlags _ _ _)

theorem keeps_imul16 (m : RM Reg16) (s : State) : Keeps W s (imul16 m s) :=
  ((keeps_readRM16 s m).trans (keeps_setDXAX ..)).trans (keeps_setFlags_drawFlags _ _ _)

theorem keeps_aaa (s : State) : Keeps W s s.aaa :=
  (keeps_setReg16 s ..).trans (keeps_setFlags_drawFlags _ _ _)

theorem keeps_aas (s : State) : Keeps W s s.aas :=
  (keeps_setReg16 s ..).trans (keeps_setFlags_drawFlags _ _ _)

theorem keeps_aad (s : State) (imm : Byte) : Keeps W s (s.aad imm) :=
  (keeps_setReg16 s ..).trans (keeps_setFlags_drawFlags _ _ _)

theorem keeps_daa (s : State) : Keeps W s s.daa :=
  ((keeps_setReg8 s ..).trans (keeps_setFlags _ _)).trans (keeps_drawFlag ..)

theorem keeps_das (s : State) : Keeps W s s.das :=
  ((keeps_setReg8 s ..).trans (keeps_setFlags _ _)).trans (keeps_drawFlag ..)

/-! ### Interrupt entries, and the operations that can end in one -/

/-- The controls of `W` include those an interrupt entry writes (60_exceptions.md R1010). -/
structure MayEnter (W : Control → Prop) : Prop where
  cs : W (.sreg .cs)
  tf : W .tf
  ifl : W .ifl

theorem keeps_pushFrame (h : MayEnter W) (s : State) (ret : Word) : Keeps W s (s.pushFrame ret) := by
  have hf : Keeps W s (pushedFlags s) :=
    (keeps_push s _).trans (keeps_setControls _ _ (.inl h.tf) (.inl h.ifl) (.inr rfl))
  rw [pushFrame_eq]
  exact (hf.trans (keeps_push ..)).trans (keeps_push ..)

theorem keeps_enterInterrupt (h : MayEnter W) (s : State) (n : Byte) (ret : Word) :
    Keeps W s (s.enterInterrupt n ret) := by
  have hr : ∀ t : State, Keeps W t (t.readVector n).2 := fun t => .of_readOnly (readOnly_readVector t n)
  have hj : ∀ (t : State) (cs ip : Word), Keeps W t (t.jumpFar cs ip) := fun t => keeps_jumpFar t h.cs
  have he : ∀ t : State, Keeps W t
      { t with eu := { t.eu with rep := none, waiting := false, halted := false } } := fun t =>
    keeps_setEu t _ rfl (.inr rfl)
  unfold State.enterInterrupt
  split
  · exact (((keeps_pushFrame h s ret).trans (hr _)).trans (hj ..)).trans (he _)
  · exact (((hr s).trans (keeps_pushFrame h _ ret)).trans (hj ..)).trans (he _)

theorem keeps_softInterrupt (h : MayEnter W) (s : State) (n : Byte) : Keeps W s (s.softInterrupt n) :=
  (keeps_enterInterrupt h s n s.ip).trans (keeps_setEu _ _)

theorem keeps_boundaryInterrupt (h : MayEnter W) (s : State) (n : Byte) : Keeps W s (s.boundaryInterrupt n) := by
  have hl : Keeps W s s.releaseLock := keeps_setEu s _
  exact (hl.trans (keeps_enterInterrupt h _ n s.returnIp)).trans (keeps_setEu _ _)

theorem keeps_finishDivide8 (h : MayEnter W) (s : State) (r : Option (Byte × Byte)) :
    Keeps W s (s.finishDivide8 r) := by
  cases r with
  | some r => exact (keeps_setReg16 s ..).trans (keeps_drawFlags ..)
  | none => exact ((keeps_drawReg16 s _).trans (keeps_drawFlags ..)).trans (keeps_softInterrupt h ..)

theorem keeps_finishDivide16 (h : MayEnter W) (s : State) (r : Option (Word × Word)) :
    Keeps W s (s.finishDivide16 r) := by
  cases r with
  | some r => exact ((keeps_setReg16 s ..).trans (keeps_setReg16 ..)).trans (keeps_drawFlags ..)
  | none =>
    exact (((keeps_drawReg16 s _).trans (keeps_drawReg16 ..)).trans (keeps_drawFlags ..)).trans
      (keeps_softInterrupt h ..)

theorem keeps_aam (h : MayEnter W) (s : State) (imm : Byte) : Keeps W s (s.aam imm) := by
  unfold State.aam
  split
  · exact (keeps_drawFlags s _).trans (keeps_softInterrupt h ..)
  · exact (keeps_setReg16 s ..).trans (keeps_setFlags_drawFlags _ _ _)

/-! ### Control transfer -/

theorem keeps_jumpIf (s : State) (b : Bool) (rel : Byte) : Keeps W s (s.jumpIf b rel) := by
  cases b with
  | false => exact .refl s
  | true => exact keeps_jump ..

theorem keeps_loop (s : State) (b : Bool) (rel : Byte) : Keeps W s (s.loop b rel) :=
  (keeps_setReg16 s ..).trans (keeps_jumpIf ..)

theorem keeps_ret (s : State) (n : Word) : Keeps W s (s.ret n) :=
  ((keeps_pop s).trans (keeps_setReg16 ..)).trans (keeps_jump ..)

theorem keeps_callFar (s : State) (h : W (.sreg .cs)) (seg off : Word) : Keeps W s (s.callFar seg off) :=
  ((keeps_push s _).trans (keeps_push ..)).trans (keeps_jumpFar _ h ..)

theorem keeps_retFar (s : State) (h : W (.sreg .cs)) (n : Word) : Keeps W s (s.retFar n) :=
  (((keeps_pop s).trans (keeps_pop _)).trans (keeps_setReg16 ..)).trans (keeps_jumpFar _ h ..)

theorem keeps_interruptReturn (h : MayEnter W) (hd : W .df) (s : State) : Keeps W s s.interruptReturn :=
  ((((keeps_pop s).trans (keeps_pop _)).trans (keeps_pop _)).trans
    (keeps_setControls _ _ (.inl h.tf) (.inl h.ifl) (.inl hd))).trans (keeps_jumpFar _ h.cs ..)

theorem keeps_popf (ht : W .tf) (hi : W .ifl) (hd : W .df) (s : State) :
    Keeps W s (s.pop.2.setFlags (Flags.ofWord s.pop.1)) :=
  (keeps_pop s).trans (keeps_setControls _ _ (.inl ht) (.inl hi) (.inl hd))

/-! ### Data transfer and processor control -/

theorem keeps_movSegRM (m : RM Reg16) (s : State) {r : SReg} (h : W (.sreg r)) : Keeps W s (movSegRM r m s) :=
  ((keeps_readRM16 s m).trans (keeps_setSReg _ h _)).trans (keeps_shadowLoad _)

theorem keeps_popSeg (s : State) {r : SReg} (h : W (.sreg r)) : Keeps W s (popSeg r s) :=
  ((keeps_pop s).trans (keeps_setSReg _ h _)).trans (keeps_shadowLoad _)

theorem keeps_readFar (s : State) (a : EA) : Keeps W s (s.readFar a).2 := .of_readOnly (readOnly_readFar s a)

theorem keeps_loadFar (g : Reg16) (a : EA) (s : State) {r : SReg} (h : W (.sreg r)) : Keeps W s (loadFar r g a s) :=
  ((keeps_readFar s a).trans (keeps_setReg16 ..)).trans (keeps_setSReg _ h _)

theorem keeps_pushRM (m : RM Reg16) (s : State) : Keeps W s (pushRM m s) := by
  unfold pushRM
  split
  · exact (keeps_drawBit s).trans (keeps_push ..)
  · exact (keeps_readRM16 s m).trans (keeps_push ..)

theorem keeps_xchgRM8 (m : RM Reg8) (g : Reg8) (s : State) : Keeps W s (xchgRM8 m g s) :=
  ((keeps_readRM8 s m).trans (keeps_writeRM8 ..)).trans (keeps_setReg8 ..)

theorem keeps_xchgRM16 (m : RM Reg16) (g : Reg16) (s : State) : Keeps W s (xchgRM16 m g s) :=
  ((keeps_readRM16 s m).trans (keeps_writeRM16 ..)).trans (keeps_setReg16 ..)

theorem keeps_lea (g : Reg16) (m : RM Reg16) (s : State) : Keeps W s (lea g m s) := by
  cases m with
  | reg r => exact keeps_drawReg16 ..
  | mem a => exact keeps_setReg16 ..

theorem keeps_inAL (p : Word) (s : State) : Keeps W s (inAL p s) :=
  (Keeps.of_readOnly (readOnly_ioReadB s p)).trans (keeps_setReg8 ..)

theorem keeps_inAX (p : Word) (s : State) : Keeps W s (inAX p s) :=
  (Keeps.of_readOnly (readOnly_ioReadW s p)).trans (keeps_setReg16 ..)

theorem keeps_esc (m : RM Reg16) (s : State) : Keeps W s (Machine.esc m s) := by
  cases m with
  | reg r => exact .refl s
  | mem a =>
    simp only [Machine.esc]
    split
    · exact .of_readOnly (readOnly_readB ..)
    · exact .refl s

theorem keeps_waitTest (s : State) : Keeps W s s.waitTest := by
  unfold State.waitTest
  split
  · exact .refl s
  · exact keeps_setEu s _

/-- HLT stops the BIU's fetches; the bytes it holds and its fetch pointer stay (20_memory.md R236). -/
theorem keeps_hlt (s : State) : Keeps W s s.hlt where
  same c _ := by cases c <;> rfl
  memOk := id
  stream h := ⟨h.atRest, h.room, h.pc⟩
  decoding := rfl
  rep := .inl rfl

theorem keeps_setIf (s : State) (h : W .ifl) (b : Bool) : Keeps W s (s.setFlags { s.flags with ifl := b }) :=
  keeps_setControls s _ (.inr rfl) (.inl h) (.inr rfl)

theorem keeps_setDf (s : State) (h : W .df) (b : Bool) : Keeps W s (s.setFlags { s.flags with df := b }) :=
  keeps_setControls s _ (.inr rfl) (.inr rfl) (.inl h)

theorem keeps_sti (s : State) (h : W .ifl) : Keeps W s s.sti :=
  (keeps_setIf s h true).trans (keeps_setEu _ s.sti.eu)

theorem keeps_markRefused (s : State) : Keeps W s s.markRefused := .of_same rfl ⟨rfl, rfl, rfl⟩ rfl rfl rfl rfl

/-! ### The string instructions (43_string.md R701 to R707) -/

theorem keeps_stepIndex (s : State) (w : Width) (r : Reg16) : Keeps W s (s.stepIndex w r) := keeps_setReg16 ..

theorem keeps_readWidth (s : State) (w : Width) (seg off : Word) : Keeps W s (s.readWidth w seg off).2 :=
  .of_readOnly (readOnly_readWidth ..)

theorem keeps_writeWidth (s : State) (w : Width) (seg off v : Word) : Keeps W s (s.writeWidth w seg off v) := by
  cases w with
  | byte => exact keeps_writeB ..
  | word => exact keeps_writeW ..

theorem keeps_compareWidth (s : State) (w : Width) (a b : Word) : Keeps W s (s.compareWidth w a b) := by
  cases w <;> exact keeps_aluFlags s .cmp _ _

theorem keeps_setAcc (s : State) (w : Width) (v : Word) : Keeps W s (s.setAcc w v) := by
  cases w with
  | byte => exact keeps_setReg8 ..
  | word => exact keeps_setReg16 ..

theorem keeps_stringOp (s : State) (p : StringPrim) (w : Width) (g : SReg) : Keeps W s (s.stringOp p w g) := by
  cases p with
  | movs =>
    exact (((keeps_readWidth s w ..).trans (keeps_writeWidth ..)).trans (keeps_stepIndex ..)).trans (keeps_stepIndex ..)
  | cmps =>
    exact ((((keeps_readWidth s w ..).trans (keeps_readWidth ..)).trans (keeps_compareWidth ..)).trans
      (keeps_stepIndex ..)).trans (keeps_stepIndex ..)
  | scas => exact ((keeps_readWidth s w ..).trans (keeps_compareWidth ..)).trans (keeps_stepIndex ..)
  | lods => exact ((keeps_readWidth s w ..).trans (keeps_setAcc ..)).trans (keeps_stepIndex ..)
  | stos => exact (keeps_writeWidth s w ..).trans (keeps_stepIndex ..)

/-- A frame after which a repetition in progress has iterations left, if there was none before. -/
structure Effect (W : Control → Prop) (s t : State) : Prop extends Frame W s t where
  repOk : s.eu.rep = none → t.RepOk

theorem Keeps.effect (h : Keeps W s t) : Effect W s t where
  toFrame := h.toFrame
  repOk e := by
    have : t.eu.rep = none := h.rep.elim (·.trans e) id
    simp [State.RepOk, this]

/-- After an iteration the repetition has ended or CX is not 0 (43_string.md R701). -/
theorem repOk_iterate (s : State) (r : RepState) : (s.iterate r).RepOk := by
  intro h hcx
  have he : r.ends (s.iterate r).flags.zf (s.iterate r).regs.cx = true := by simp [RepState.ends, hcx]
  have hr : (s.iterate r).eu.rep =
      if r.ends (s.iterate r).flags.zf (s.iterate r).regs.cx = true then none else some r := rfl
  simp [hr, he] at h

theorem effect_iterate (s : State) (r : RepState) : Effect W s (s.iterate r) where
  toFrame := by
    let t := s.stringOp r.prim r.width r.seg
    have h : Frame W s (t.setReg16 .cx (t.regs.cx - 1)) :=
      ((keeps_stringOp s ..).trans (keeps_setReg16 ..)).toFrame
    exact h.trans ⟨fun c _ => by cases c <;> rfl, id, fun k => k.of_same rfl rfl, rfl⟩
  repOk _ := repOk_iterate s r

theorem effect_string (s : State) (p : StringPrim) (w : Width) : Effect W s (s.string p w) := by
  unfold State.string
  split
  · exact (keeps_stringOp ..).effect
  · split
    · exact (Keeps.refl s).effect
    · exact effect_iterate ..

/-! ### Every instruction -/

/-- The instructions that make an interrupt entry, or can. -/
def IsEntry (i : Instr) : Prop :=
  (∃ b, i = .intIb b ∨ i = .aamIb b) ∨ (∃ m, i = .divEb m ∨ i = .idivEb m) ∨ (∃ m, i = .divEw m ∨ i = .idivEw m) ∨
    i ∈ [.int3, .into]

/-- The controls an instruction can write (10_state.md R105, R110). -/
def MayWrite (i : Instr) : Control → Prop
  | .sreg .cs => IsEntry i ∨ (∃ a b, i = .jmpAp a b ∨ i = .callAp a b) ∨ (∃ a, i = .jmpMp a ∨ i = .callMp a) ∨
      (∃ w, i = .retfIw w) ∨ i ∈ [.retf, .iret]
  | .sreg .ds => (∃ m, i = .movDSEw m) ∨ (∃ g a, i = .ldsGwMp g a) ∨ i = .popDS
  | .sreg .es => (∃ m, i = .movESEw m) ∨ (∃ g a, i = .lesGwMp g a) ∨ i = .popES
  | .sreg .ss => (∃ m, i = .movSSEw m) ∨ i = .popSS
  | .tf => i ∈ [.popf, .iret] ∨ IsEntry i
  | .ifl => i ∈ [.popf, .iret, .cli, .sti] ∨ IsEntry i
  | .df => i ∈ [.popf, .iret, .cld, .std]

theorem IsEntry.mayEnter {i : Instr} (h : IsEntry i) : MayEnter (MayWrite i) := ⟨.inl h, .inr h, .inr h⟩

/-- Every instruction answers a next state, within its frame. -/
theorem exec_effect (i : Instr) (s : State) : ∃ t, exec i s = .next t ∧ Effect (MayWrite i) s t := by
  cases i with
  | addEbGb | adcEbGb | sbbEbGb | subEbGb | cmpEbGb | orEbGb | andEbGb | xorEbGb | testEbGb
  | addEbIb | adcEbIb | sbbEbIb | subEbIb | cmpEbIb | orEbIb | andEbIb | xorEbIb | testEbIb
  | addALIb | adcALIb | sbbALIb | subALIb | cmpALIb | orALIb | andALIb | xorALIb | testALIb =>
    exact ⟨_, rfl, (keeps_aluRM8 ..).effect⟩
  | addEwGw | adcEwGw | sbbEwGw | subEwGw | cmpEwGw | orEwGw | andEwGw | xorEwGw | testEwGw
  | addEwIw | adcEwIw | sbbEwIw | subEwIw | cmpEwIw | orEwIw | andEwIw | xorEwIw | testEwIw
  | addEwIbs | adcEwIbs | sbbEwIbs | subEwIbs | cmpEwIbs | orEwIbs | andEwIbs | xorEwIbs
  | addAXIw | adcAXIw | sbbAXIw | subAXIw | cmpAXIw | orAXIw | andAXIw | xorAXIw | testAXIw =>
    exact ⟨_, rfl, (keeps_aluRM16 ..).effect⟩
  | addGbEb | adcGbEb | sbbGbEb | subGbEb | cmpGbEb | orGbEb | andGbEb | xorGbEb =>
    exact ⟨_, rfl, (keeps_aluGbEb ..).effect⟩
  | addGwEw | adcGwEw | sbbGwEw | subGwEw | cmpGwEw | orGwEw | andGwEw | xorGwEw =>
    exact ⟨_, rfl, (keeps_aluGwEw ..).effect⟩
  | incEb | decEb | negEb | notEb => exact ⟨_, rfl, (keeps_unaryRM8 ..).effect⟩
  | incEw | decEw | negEw | notEw
  | incAX | incCX | incDX | incBX | incSP | incBP | incSI | incDI
  | decAX | decCX | decDX | decBX | decSP | decBP | decSI | decDI =>
    exact ⟨_, rfl, (keeps_unaryRM16 ..).effect⟩
  | rolEb1 | rorEb1 | rclEb1 | rcrEb1 | shlEb1 | shrEb1 | sarEb1
  | rolEbCL | rorEbCL | rclEbCL | rcrEbCL | shlEbCL | shrEbCL | sarEbCL =>
    exact ⟨_, rfl, (keeps_shiftRM8 ..).effect⟩
  | rolEw1 | rorEw1 | rclEw1 | rcrEw1 | shlEw1 | shrEw1 | sarEw1
  | rolEwCL | rorEwCL | rclEwCL | rcrEwCL | shlEwCL | shrEwCL | sarEwCL =>
    exact ⟨_, rfl, (keeps_shiftRM16 ..).effect⟩
  | mulEb => exact ⟨_, rfl, (keeps_mul8 ..).effect⟩
  | imulEb => exact ⟨_, rfl, (keeps_imul8 ..).effect⟩
  | mulEw => exact ⟨_, rfl, (keeps_mul16 ..).effect⟩
  | imulEw => exact ⟨_, rfl, (keeps_imul16 ..).effect⟩
  | divEb m | idivEb m =>
    refine ⟨_, rfl, ((keeps_readRM8 ..).trans (keeps_finishDivide8 (IsEntry.mayEnter ?_) ..)).effect⟩
    exact .inr (.inl ⟨m, by simp⟩)
  | divEw m | idivEw m =>
    refine ⟨_, rfl, ((keeps_readRM16 ..).trans (keeps_finishDivide16 (IsEntry.mayEnter ?_) ..)).effect⟩
    exact .inr (.inr (.inl ⟨m, by simp⟩))
  | daa => exact ⟨_, rfl, (keeps_daa s).effect⟩
  | das => exact ⟨_, rfl, (keeps_das s).effect⟩
  | aaa => exact ⟨_, rfl, (keeps_aaa s).effect⟩
  | aas => exact ⟨_, rfl, (keeps_aas s).effect⟩
  | aamIb b => exact ⟨_, rfl, (keeps_aam (IsEntry.mayEnter (.inl ⟨b, .inr rfl⟩)) ..).effect⟩
  | aadIb => exact ⟨_, rfl, (keeps_aad ..).effect⟩
  | cbw | cwd
  | movAXIw | movCXIw | movDXIw | movBXIw | movSPIw | movBPIw | movSIIw | movDIIw =>
    exact ⟨_, rfl, (keeps_setReg16 ..).effect⟩
  | salc | lahf
  | movALIb | movCLIb | movDLIb | movBLIb | movAHIb | movCHIb | movDHIb | movBHIb =>
    exact ⟨_, rfl, (keeps_setReg8 ..).effect⟩
  | joJb | jnoJb | jbJb | jaeJb | jeJb | jneJb | jbeJb | jaJb | jsJb | jnsJb | jpJb | jnpJb | jlJb | jgeJb | jleJb
  | jgJb | jcxzJb => exact ⟨_, rfl, (keeps_jumpIf ..).effect⟩
  | loopneJb | loopeJb | loopJb => exact ⟨_, rfl, (keeps_loop ..).effect⟩
  | jmpJw | jmpJb => exact ⟨_, rfl, (keeps_jump ..).effect⟩
  | jmpEw => exact ⟨_, rfl, ((keeps_readRM16 ..).trans (keeps_jump ..)).effect⟩
  | callJw => exact ⟨_, rfl, ((keeps_push ..).trans (keeps_jump ..)).effect⟩
  | callEw => exact ⟨_, rfl, (((keeps_readRM16 ..).trans (keeps_push ..)).trans (keeps_jump ..)).effect⟩
  | jmpAp => exact ⟨_, rfl, (keeps_jumpFar s (.inr (.inl ⟨_, _, .inl rfl⟩)) ..).effect⟩
  | jmpMp => exact ⟨_, rfl, ((keeps_readFar ..).trans (keeps_jumpFar _ (.inr (.inr (.inl ⟨_, .inl rfl⟩))) ..)).effect⟩
  | callAp => exact ⟨_, rfl, (keeps_callFar s (.inr (.inl ⟨_, _, .inr rfl⟩)) ..).effect⟩
  | callMp => exact ⟨_, rfl, ((keeps_readFar ..).trans (keeps_callFar _ (.inr (.inr (.inl ⟨_, .inr rfl⟩))) ..)).effect⟩
  | ret | retIw => exact ⟨_, rfl, (keeps_ret ..).effect⟩
  | retf => exact ⟨_, rfl, (keeps_retFar s (.inr (.inr (.inr (.inr (.head _))))) _).effect⟩
  | retfIw => exact ⟨_, rfl, (keeps_retFar s (.inr (.inr (.inr (.inl ⟨_, rfl⟩)))) _).effect⟩
  | int3 => exact ⟨_, rfl, (keeps_softInterrupt (IsEntry.mayEnter (.inr (.inr (.inr (.head _))))) ..).effect⟩
  | intIb b => exact ⟨_, rfl, (keeps_softInterrupt (IsEntry.mayEnter (.inl ⟨b, .inl rfl⟩)) ..).effect⟩
  | into =>
    have h : MayEnter (MayWrite .into) := IsEntry.mayEnter (.inr (.inr (.inr (.tail _ (.head _)))))
    refine ⟨_, rfl, Keeps.effect ?_⟩
    split
    · exact keeps_softInterrupt h ..
    · exact .refl s
  | iret =>
    have h : MayEnter (MayWrite .iret) := ⟨by simp [MayWrite], by simp [MayWrite], by simp [MayWrite]⟩
    exact ⟨_, rfl, (keeps_interruptReturn h (by simp [MayWrite]) s).effect⟩
  | pushES | pushCS | pushSS | pushDS
  | pushAX | pushCX | pushDX | pushBX | pushSP | pushBP | pushSI | pushDI | pushf =>
    exact ⟨_, rfl, (keeps_push ..).effect⟩
  | popAX | popCX | popDX | popBX | popSP | popBP | popSI | popDI =>
    exact ⟨_, rfl, ((keeps_pop s).trans (keeps_setReg16 ..)).effect⟩
  | pushEw => exact ⟨_, rfl, (keeps_pushRM ..).effect⟩
  | popEw => exact ⟨_, rfl, ((keeps_pop s).trans (keeps_writeRM16 ..)).effect⟩
  | popf => exact ⟨_, rfl, (keeps_popf (.inl (.head _)) (.inl (.head _)) (.head _) s).effect⟩
  | popES | popDS => exact ⟨_, rfl, (keeps_popSeg s (.inr (.inr rfl))).effect⟩
  | popSS => exact ⟨_, rfl, (keeps_popSeg s (.inr rfl)).effect⟩
  | movESEw | movSSEw | movDSEw => exact ⟨_, rfl, (keeps_movSegRM _ s (.inl ⟨_, rfl⟩)).effect⟩
  | lesGwMp | ldsGwMp => exact ⟨_, rfl, (keeps_loadFar _ _ s (.inr (.inl ⟨_, _, rfl⟩))).effect⟩
  | xchgEbGb => exact ⟨_, rfl, (keeps_xchgRM8 ..).effect⟩
  | xchgEwGw | xchgAXCX | xchgAXDX | xchgAXBX | xchgAXSP | xchgAXBP | xchgAXSI | xchgAXDI =>
    exact ⟨_, rfl, (keeps_xchgRM16 ..).effect⟩
  | movEbGb | movEbIb => exact ⟨_, rfl, (keeps_writeRM8 ..).effect⟩
  | movEwGw | movEwIw | movEwES | movEwCS | movEwSS | movEwDS => exact ⟨_, rfl, (keeps_writeRM16 ..).effect⟩
  | movGbEb => exact ⟨_, rfl, ((keeps_readRM8 ..).trans (keeps_setReg8 ..)).effect⟩
  | movGwEw => exact ⟨_, rfl, ((keeps_readRM16 ..).trans (keeps_setReg16 ..)).effect⟩
  | movALOb | xlat => exact ⟨_, rfl, ((Keeps.of_readOnly (readOnly_readB ..)).trans (keeps_setReg8 ..)).effect⟩
  | movAXOw => exact ⟨_, rfl, ((Keeps.of_readOnly (readOnly_readW ..)).trans (keeps_setReg16 ..)).effect⟩
  | movObAL => exact ⟨_, rfl, (keeps_writeB ..).effect⟩
  | movOwAX => exact ⟨_, rfl, (keeps_writeW ..).effect⟩
  | leaGwM => exact ⟨_, rfl, (keeps_lea ..).effect⟩
  | inALIb | inALDX => exact ⟨_, rfl, (keeps_inAL ..).effect⟩
  | inAXIb | inAXDX => exact ⟨_, rfl, (keeps_inAX ..).effect⟩
  | outIbAL | outDXAL => exact ⟨_, rfl, (keeps_ioWriteB ..).effect⟩
  | outIbAX | outDXAX => exact ⟨_, rfl, (keeps_ioWriteW ..).effect⟩
  | sahf | cmc | clc | stc => exact ⟨_, rfl, (keeps_setFlags ..).effect⟩
  | cli => exact ⟨_, rfl, (keeps_setIf s (by simp [MayWrite]) _).effect⟩
  | cld | std => exact ⟨_, rfl, (keeps_setDf s (by simp [MayWrite]) _).effect⟩
  | sti => exact ⟨_, rfl, (keeps_sti s (by simp [MayWrite])).effect⟩
  | esc0E | esc1E | esc2E | esc3E | esc4E | esc5E | esc6E | esc7E => exact ⟨_, rfl, (keeps_esc ..).effect⟩
  | nop => exact ⟨_, rfl, (Keeps.refl s).effect⟩
  | wait => exact ⟨_, rfl, (keeps_waitTest s).effect⟩
  | hlt => exact ⟨_, rfl, (keeps_hlt s).effect⟩
  | refused => exact ⟨_, rfl, (keeps_markRefused s).effect⟩
  | prefixES | prefixCS | prefixSS | prefixDS | lock | repne | rep =>
    exact ⟨_, rfl, (keeps_setEu ..).effect⟩
  | movsb | movsw | cmpsb | cmpsw | stosb | stosw | lodsb | lodsw | scasb | scasw =>
    exact ⟨_, rfl, effect_string ..⟩

theorem effect_of_exec {i : Instr} (h : exec i s = .next t) : Effect (MayWrite i) s t := by
  obtain ⟨t', h', e⟩ := exec_effect i s
  cases h.symm.trans h'
  exact e

/-- A control that an instruction changes is one it may write. -/
theorem mayWrite_of_exec {i : Instr} (h : exec i s = .next t) (c : Control) (hc : ¬ c.Same s t) : MayWrite i c := by
  by_contra hn
  exact hc ((effect_of_exec h).same c hn)

/-- Settles O56: an instruction changes only the controls of its frame, and `MayWrite` gives each control the instructions
that 10_state.md R105 and R110 name. -/
theorem writersOfControlState : Obligations.WritersOfControlState := fun _ _ _ h =>
  have key := mayWrite_of_exec h
  ⟨key (.sreg .cs), key (.sreg .ds), key (.sreg .es), key (.sreg .ss), key .tf, key .ifl, key .df⟩

end Sys2Proof.Proofs
end

section
/-! Every step keeps the invariant of the architectural level: the parts of a step, each once, and then the step
(30_encoding.md R315). -/

namespace Sys2Proof.Proofs

open Sys2Proof Sys2Proof.Machine Sys2Proof.Laws

variable {W : Control → Prop} {s t u : State}

/-! ### What holds throughout a step -/

/-- Inside a step memory is canonical and the instruction stream is in order. -/
structure Sound (s : State) : Prop where
  memOk : s.MemOk
  stream : StreamOk s

theorem Frame.sound (h : Frame W s t) (k : Sound s) : Sound t := ⟨h.memOk k.memOk, h.stream k.stream⟩

/-- An instruction has run: what is left of the invariant but for the record, which the end of the step clears. -/
structure Done (s : State) : Prop extends Sound s where
  repOk : s.RepOk
  decoding : s.eu.decoding = true → s.eu.rep = none

theorem repOk_of_none (h : s.eu.rep = none) : s.RepOk := by simp [State.RepOk, h]

theorem StreamOk.queueOk (h : StreamOk s) : s.QueueOk := by
  have hr := h.room
  simpa [State.QueueOk, h.atRest] using hr

theorem StreamOk.ipOk (h : StreamOk s) : s.IpOk := by
  simp [State.IpOk, Biu.derivedIp, h.atRest, h.pc]

theorem inv_of_sound (h : Sound s) (hr : s.RepOk) (hc : s.RecordOk) : s.Inv :=
  ⟨h.memOk, h.stream.queueOk, h.stream.ipOk, hr, hc⟩

/-! ### The instruction stream -/

theorem held_setHeld (b : Biu) (l : List Byte) : (b.setHeld l).held = l := by
  cases l <;> rfl

theorem length_held_le (h : StreamOk s) : s.biu.held.length ≤ maxHeld := by
  have hr := h.room
  have hp : s.biu.preload.toList.length ≤ 1 := by cases s.biu.preload <;> simp
  simp only [Biu.held, List.length_append, maxHeld, Config.queueSize] at *
  omega

theorem length_codeFrom (s : State) (off : Word) (k n : Nat) : (s.codeFrom off k n).length = n := by
  induction n generalizing off k with
  | zero => rfl
  | succ n ih => simp [State.codeFrom, ih]

theorem length_refetchBytes (s : State) (m : List Bool) (l : List Byte) (off : Word) (k : Nat) :
    (s.refetchBytes m l off k).length = l.length := by
  induction l generalizing m off k with
  | nil => cases m <;> rfl
  | cons b l ih => cases m <;> simp [State.refetchBytes, ih]

/-- Another list of bytes held, no longer than the BIU can hold, with the fetch pointer past IP by its length. -/
theorem StreamOk.setHeld (h : StreamOk s) {l : List Byte} {p : Word} (hl : l.length ≤ maxHeld)
    (hb : t.biu = { s.biu.setHeld l with pc := p }) (hp : p = t.ip + BitVec.ofNat 16 l.length) : StreamOk t where
  atRest := by rw [hb]; exact h.atRest
  room := by
    simp only [hb, Biu.setHeld, List.length_tail, maxHeld] at *
    omega
  pc := by
    have he : t.biu.held = l := by rw [hb]; exact held_setHeld s.biu l
    rw [he, hb, hp]

theorem StreamOk.consume (h : StreamOk s) (n : Nat) : StreamOk (s.consume n) := by
  have hl := length_held_le h
  refine h.setHeld (l := s.biu.held.drop n) (by rw [List.length_drop]; omega) rfl ?_
  have e : s.biu.held.length + (n - s.biu.held.length) = n + (s.biu.held.length - n) := by omega
  rw [List.length_drop, consume_ip, h.pc, BitVec.add_assoc, BitVec.add_assoc, ← BitVec.ofNat_add, ← BitVec.ofNat_add, e]

/-- The BIU fetches no more than it has room for (20_memory.md R214). -/
theorem fetchable_le (b : Biu) (n : Nat) : b.fetchable n ≤ maxHeld - b.held.length := by
  unfold Biu.fetchable
  split
  · exact Nat.zero_le _
  · exact Nat.min_le_right ..

theorem StreamOk.prefetch (h : StreamOk s) (n : Nat) : StreamOk (s.prefetch n) := by
  have hl := length_held_le h
  have hf := fetchable_le s.biu n
  refine h.setHeld (l := s.biu.held ++ s.codeFrom s.biu.pc 0 (s.biu.fetchable n)) ?_ rfl ?_
  · rw [List.length_append, length_codeFrom]
    omega
  · rw [List.length_append, length_codeFrom, prefetch_ip, h.pc, BitVec.add_assoc, ← BitVec.ofNat_add]

theorem StreamOk.refetch (h : StreamOk s) (m : List Bool) : StreamOk (s.refetch m) :=
  h.setHeld (by rw [length_refetchBytes]; exact length_held_le h) rfl (by rw [length_refetchBytes]; exact h.pc)

/-- At rest the BIU holds the byte of the code fetch that was under way, so IP is as far behind its fetch pointer as before
(20_memory.md R247). -/
theorem streamOk_settle (hq : s.QueueOk) (hi : s.IpOk) : StreamOk s.settle := by
  have hip : s.biu.pc = s.ip + BitVec.ofNat 16 (s.biu.held.length + if s.biu.codeExpected then 1 else 0) := by
    rw [← hi, Biu.derivedIp, BitVec.sub_add_cancel]
  cases he : s.biu.codeExpected <;> simp only [he, State.QueueOk] at hq hip
  · exact ⟨rfl, by simpa [State.settle, he] using hq, by simpa [State.settle, he, Biu.held, Biu.idle] using hip⟩
  · refine ⟨rfl, by simpa [State.settle, he] using hq, ?_⟩
    simpa [State.settle, he, Biu.held, Biu.idle, Nat.add_assoc] using hip

theorem Sound.consume (h : Sound s) (n : Nat) : Sound (s.consume n) := ⟨h.memOk, h.stream.consume n⟩

theorem Sound.prefetch (h : Sound s) (n : Nat) : Sound (s.prefetch n) := ⟨h.memOk, h.stream.prefetch n⟩

theorem Sound.setEu (h : Sound s) (e : Eu) : Sound { s with eu := e } := ⟨h.memOk, h.stream.of_same rfl rfl⟩

/-! ### The start and the end of a step -/

theorem sound_beginStep (h : s.Inv) : Sound s.beginStep := by
  obtain ⟨hm, hq, hi, -, -⟩ := h
  exact ⟨hm, (streamOk_settle hq hi).of_same rfl rfl⟩

theorem inv_beginStep (h : s.Inv) : s.beginStep.Inv := by
  have ⟨_, _, _, hr, hc⟩ := h
  exact inv_of_sound (sound_beginStep h) hr hc

theorem inv_clearShadows (h : s.Inv) : s.clearShadows.Inv := h

theorem inv_markRefused (h : s.Inv) : s.markRefused.Inv := h

theorem inv_resetAction (h : s.Inv) : s.resetAction.Inv := by
  obtain ⟨hm, -, -, -, -⟩ := h
  exact inv_of_sound ⟨hm, ⟨rfl, Nat.zero_le _, rfl⟩⟩ (repOk_of_none rfl) ⟨fun _ => ⟨rfl, rfl⟩, fun _ => rfl⟩

/-- The end of a step clears the record (10_state.md R116). -/
theorem inv_endStep (h : Sound s) (hr : s.RepOk) (hd : s.eu.decoding = false) : s.endStep.Inv := by
  have hs := h.stream.refetch s.pins.refetch
  refine inv_of_sound ⟨h.memOk, ⟨hs.atRest, hs.room, hs.pc⟩⟩ hr ⟨fun _ => ⟨rfl, rfl⟩, fun hd' => ?_⟩
  exact absurd (hd.symm.trans hd') Bool.false_ne_true

theorem inv_finish {start : State} {r : Result} (hs : start.Inv) (hr : ∀ u, r = .next u → Done u)
    (h : finish start r = .next t) : t.Inv := by
  cases r with
  | fault f => cases h
  | refused f => cases h
  | next u =>
    have hu := hr u rfl
    simp only [finish] at h
    split at h
    · cases h
      exact inv_markRefused hs
    · split at h
      next hd =>
        cases h
        exact inv_of_sound hu.toSound hu.repOk ⟨fun hd' => absurd (hd.symm.trans hd') nofun, hu.decoding⟩
      next hd =>
        cases h
        exact inv_endStep hu.toSound hu.repOk (Bool.eq_false_iff.mpr hd)

/-! ### One instruction with its prefixes -/

/-- A byte that goes before an instruction changes the record and nothing else (30_encoding.md R301). -/
theorem exec_isPrefix {i : Instr} (h : i.isPrefix = true) (s : State) :
    ∃ e : Eu, exec i s = .next { s with eu := e } ∧ e.rep = s.eu.rep ∧ e.decoding = s.eu.decoding := by
  cases i with
  | prefixES | prefixCS | prefixSS | prefixDS | lock | repne | rep => exact ⟨_, rfl, rfl, rfl⟩
  | _ => exact absurd h Bool.false_ne_true

theorem done_runDecoded {i : Instr} (hs : Sound s) (hd : s.eu.decoding = false) (hr : s.eu.rep = none)
    (h : s.runDecoded i = .next u) : Done u := by
  unfold State.runDecoded at h
  split at h
  · cases h
    exact ⟨⟨hs.memOk, hs.stream.of_same rfl rfl⟩, repOk_of_none hr, fun _ => hr⟩
  · have e := effect_of_exec h
    exact ⟨e.toFrame.sound (hs.prefetch _), e.repOk hr, fun hd' => absurd (e.decoding.symm.trans hd') (by simp [hd])⟩

theorem done_runFrom (n : Nat) (hs : Sound s) (hd : s.eu.decoding = false) (hr : s.eu.rep = none)
    (h : State.runFrom n s = .next u) : Done u := by
  induction n generalizing s with
  | zero =>
    cases h
    exact ⟨hs.setEu _, repOk_of_none hr, fun _ => hr⟩
  | succ n ih =>
    unfold State.runFrom at h
    split at h
    · cases h
    next i rest _ =>
      have hc := hs.consume (s.window.length - rest.length)
      by_cases hp : i.isPrefix = true
      · obtain ⟨e, he, her, hed⟩ := exec_isPrefix hp (s.consume (s.window.length - rest.length))
        simp only [hp, if_true, he] at h
        exact ih (hc.setEu e) (hed.trans hd) (her.trans hr) h
      · simp only [hp, Bool.false_eq_true, if_false] at h
        exact done_runDecoded hc hd hr h

theorem inv_runInstruction (hi : s.Inv) (hs : Sound s) (hd : s.eu.decoding = false) (hr : s.eu.rep = none)
    (h : s.runInstruction = .next t) : t.Inv :=
  inv_finish hi (fun _ => done_runFrom prefixLimit (s := s.beginInstruction) (hs.setEu _) hd hr) h

/-- A step inside a run of prefixes: no repetition is in progress there (70_reset_and_hazards.md R1115). -/
theorem inv_resumeDecoding (hi : s.Inv) (hs : Sound s) (hr : s.eu.rep = none) (h : s.resumeDecoding = .next t) :
    t.Inv :=
  inv_finish hi (fun _ => done_runFrom prefixLimit (hs.setEu { s.eu with decoding := false }) rfl hr) h

/-! ### The other steps -/

theorem keeps_take (h : MayEnter W) (s : State) : ∀ e, Keeps W s (s.take e)
  | .nmi => (keeps_setEu s _).trans (keeps_boundaryInterrupt h _ 2)
  | .intr v =>
    have ha : Keeps W s (s.intAck v) := .of_same rfl ⟨rfl, rfl, rfl⟩ rfl rfl rfl rfl
    ha.trans (keeps_boundaryInterrupt h _ v)
  | .trap => keeps_boundaryInterrupt h s 1

theorem keeps_takeAll (h : MayEnter W) (l : List Entry) (s : State) : Keeps W s (l.foldl State.take s) := by
  induction l generalizing s with
  | nil => exact .refl s
  | cons e l ih => exact (keeps_take h s e).trans (ih _)

/-- The state after a boundary at which an interrupt was taken. -/
theorem inv_taken {c : State} (hs : Sound s) (hd : s.eu.decoding = false) (h : s.boundaryCheck = (true, c)) :
    c.endStep.Inv := by
  obtain ⟨-, -, -, hr, -, -⟩ := boundaryCheck_taken h
  obtain ⟨-, rfl⟩ := Prod.mk.inj h
  have k := keeps_takeAll (W := fun _ => True) ⟨trivial, trivial, trivial⟩ s.entriesDue s.clearShadows
  exact inv_endStep (k.toFrame.sound (hs.setEu _)) (repOk_of_none hr) (k.decoding.trans hd)

theorem inv_sampleTest (h : s.Inv) : s.sampleTest.Inv := by
  unfold State.sampleTest
  split <;> exact h

theorem inv_prefetch (hi : s.Inv) (hs : Sound s) (n : Nat) : (s.prefetch n).Inv := by
  obtain ⟨-, -, -, hr, hc⟩ := hi
  exact inv_of_sound (hs.prefetch n) hr hc

theorem inv_proceed (hi : s.Inv) (hs : Sound s) (hd : s.eu.decoding = false) (h : s.proceed = .next t) : t.Inv := by
  unfold State.proceed at h
  split at h
  · cases h
    exact hi
  · split at h
    · cases h
      exact inv_sampleTest (inv_prefetch hi hs _)
    · split at h
      next r _ =>
        cases h
        have e := effect_iterate (W := fun _ => False) (s.prefetch s.pins.prefetch) r
        exact inv_endStep (e.toFrame.sound (hs.prefetch _)) (repOk_iterate _ r) (e.decoding.trans hd)
      next hr => exact inv_runInstruction hi hs hd hr h

theorem inv_runStep (hi : s.Inv) (hs : Sound s) (h : s.runStep = .next t) : t.Inv := by
  have ⟨_, _, _, _, _, hrec⟩ := hi
  unfold State.runStep at h
  split at h
  · cases h
    exact inv_resetAction hi
  · split at h
    next hd => exact inv_resumeDecoding hi hs (hrec hd) h
    next hd =>
      have hd' : s.eu.decoding = false := Bool.eq_false_iff.mpr hd
      simp only at h
      split at h
      next hb =>
        cases h
        exact inv_taken hs hd' (Prod.ext hb rfl)
      next hb =>
        rw [boundaryCheck_none (Bool.eq_false_iff.mpr hb)] at h
        exact inv_proceed (inv_clearShadows hi) (hs.setEu _) hd' h

/-- Settles O52: bringing the BIU to rest puts the instruction stream in order, every part of a step keeps it so, every
instruction within its frame, and the end of the step clears the record. -/
theorem stepKeepsInvariant : Obligations.StepKeepsInvariant := by
  intro s t hi h
  unfold step at h
  split at h
  · cases h
  · exact inv_runStep (inv_beginStep hi) (sound_beginStep hi) h

end Sys2Proof.Proofs
end

section
/-! The registers, the FLAGS word, and the state after reset. -/

namespace Sys2Proof.Proofs

open Sys2Proof Sys2Proof.Machine Sys2Proof.Laws

/-! ### Registers and flags (10_state.md R100, R108, R109) -/

/-- Settles O5: the halves of a word register are read off by definition, and a write changes its own register alone. -/
theorem byteHalvesAlias : Obligations.ByteHalvesAlias := fun s =>
  ⟨⟨rfl, rfl, rfl, rfl, rfl, rfl, rfl, rfl⟩, onlyReg8_set s, onlyReg16_set s,
    fun _ => ⟨⟨rfl, rfl⟩, ⟨rfl, rfl⟩, ⟨rfl, rfl⟩, rfl, rfl⟩⟩

/-- A flag's place in the FLAGS word. -/
theorem getLsbD_flagBit (b : Bool) (m : Word) (k : Nat) : (flagBit b m).getLsbD k = (b && m.getLsbD k) := by
  cases b <;> simp [flagBit]

theorem ofWord_toWord (f : Flags) : Flags.ofWord f.toWord = f := by
  simp only [Flags.ofWord, Flags.toWord, BitVec.getLsbD_or, getLsbD_flagBit]
  simp

/-- Bit by bit: nine bits are the flags, seven are fixed. -/
theorem toWord_ofWord (w : Word) : (Flags.ofWord w).toWord = (w &&& 0x0FD5) ||| 0xF002 := by
  apply BitVec.eq_of_getLsbD_eq
  intro k hk
  simp only [Flags.toWord, Flags.ofWord, BitVec.getLsbD_or, BitVec.getLsbD_and, getLsbD_flagBit]
  interval_cases k <;> simp

theorem toWord_reserved (f : Flags) : f.toWord &&& 0xF02A = 0xF002 := by
  rw [← ofWord_toWord f, toWord_ofWord]
  apply BitVec.eq_of_getLsbD_eq
  intro k hk
  interval_cases k <;> simp

/-- Settles O6: writing the nine flags into a word and reading them back gives them again, and the reserved bits are fixed. -/
theorem flagsWord : Obligations.FlagsWord := by
  refine ⟨fun f => ⟨?_, toWord_reserved f, ofWord_toWord f⟩, toWord_ofWord⟩
  have h := ofWord_toWord f
  obtain ⟨cf, pf, af, zf, sf, tf, ifl, df, ofl⟩ := f
  simpa [Flags.ofWord] using h

/-! ### Reset (10_state.md R124, R125, 70_reset_and_hazards.md R1100) -/

/-- Settles O49, by evaluating the state after reset. -/
theorem resetValues : Obligations.ResetValues := by
  unfold Obligations.ResetValues
  decide

/-- Settles O50: the queue is empty, the fetch pointer is IP, and the bus is idle. -/
theorem resetMeetsInvariant : Obligations.ResetMeetsInvariant := by
  refine ⟨inv_of_sound ⟨rfl, ⟨rfl, by decide, rfl⟩⟩ (repOk_of_none rfl) ⟨fun _ => ⟨rfl, rfl⟩, fun _ => rfl⟩, ?_⟩
  unfold Biu.Inv Biu.RoomOk Biu.CommitOk Biu.PipelineOk Biu.DiscardOk Biu.StatusOk Biu.RequestsOk Biu.WaitOk
  simp [State.reset, Biu.idle, Biu.coming, countIf, Biu.codeExpected, Biu.codeInFlight, Request.isCode]

/-- With RESET asserted a step is the reset action and nothing else. -/
theorem step_of_reset {s : State} (hr : s.refused = false) (h : s.nextInput.reset = true) :
    step s = .next s.beginStep.resetAction := by
  have hp : s.beginStep.pins.reset = true := h
  simp only [step, hr, Bool.false_eq_true, if_false, State.runStep, hp, if_true]

/-- Settles O51: the reset action gives each field its value, from whatever state. -/
theorem resetAction : Obligations.ResetAction := fun _ hr h =>
  ⟨_, step_of_reset hr h, rfl, rfl, rfl, rfl, rfl, rfl, _, rfl⟩

end Sys2Proof.Proofs
end

section
/-! A step runs the instruction whose bytes come next: what the decoder sees of the bytes held and of memory
(20_memory.md R231, 30_encoding.md R315). -/

namespace Sys2Proof.Proofs

open Sys2Proof Sys2Proof.Machine Sys2Proof.Laws

/-! ### The bytes of an instruction -/

open RoundTrip in
/-- The bytes of a well-formed instruction decode to it, whatever follows them: the lemmas of the instructions, together. -/
theorem decode_encode : ∀ i : Instr, RoundTrip.Statement i
  | .addEbGb m g => addEbGb m g | .addEwGw m g => addEwGw m g | .addGbEb g m => addGbEb g m
  | .addGwEw g m => addGwEw g m | .addALIb imm => addALIb imm | .addAXIw imm => addAXIw imm
  | .orEbGb m g => orEbGb m g | .orEwGw m g => orEwGw m g | .orGbEb g m => orGbEb g m | .orGwEw g m => orGwEw g m
  | .orALIb imm => orALIb imm | .orAXIw imm => orAXIw imm | .adcEbGb m g => adcEbGb m g
  | .adcEwGw m g => adcEwGw m g | .adcGbEb g m => adcGbEb g m | .adcGwEw g m => adcGwEw g m
  | .adcALIb imm => adcALIb imm | .adcAXIw imm => adcAXIw imm | .sbbEbGb m g => sbbEbGb m g
  | .sbbEwGw m g => sbbEwGw m g | .sbbGbEb g m => sbbGbEb g m | .sbbGwEw g m => sbbGwEw g m
  | .sbbALIb imm => sbbALIb imm | .sbbAXIw imm => sbbAXIw imm | .andEbGb m g => andEbGb m g
  | .andEwGw m g => andEwGw m g | .andGbEb g m => andGbEb g m | .andGwEw g m => andGwEw g m
  | .andALIb imm => andALIb imm | .andAXIw imm => andAXIw imm | .subEbGb m g => subEbGb m g
  | .subEwGw m g => subEwGw m g | .subGbEb g m => subGbEb g m | .subGwEw g m => subGwEw g m
  | .subALIb imm => subALIb imm | .subAXIw imm => subAXIw imm | .xorEbGb m g => xorEbGb m g
  | .xorEwGw m g => xorEwGw m g | .xorGbEb g m => xorGbEb g m | .xorGwEw g m => xorGwEw g m
  | .xorALIb imm => xorALIb imm | .xorAXIw imm => xorAXIw imm | .cmpEbGb m g => cmpEbGb m g
  | .cmpEwGw m g => cmpEwGw m g | .cmpGbEb g m => cmpGbEb g m | .cmpGwEw g m => cmpGwEw g m
  | .cmpALIb imm => cmpALIb imm | .cmpAXIw imm => cmpAXIw imm | .pushES => pushES | .popES => popES
  | .pushCS => pushCS | .pushSS => pushSS | .popSS => popSS | .pushDS => pushDS | .popDS => popDS
  | .refused op bytes => refused op bytes | .prefixES => prefixES | .prefixCS => prefixCS | .prefixSS => prefixSS
  | .prefixDS => prefixDS | .daa => daa | .das => das | .aaa => aaa | .aas => aas | .incAX => incAX
  | .incCX => incCX | .incDX => incDX | .incBX => incBX | .incSP => incSP | .incBP => incBP | .incSI => incSI
  | .incDI => incDI | .decAX => decAX | .decCX => decCX | .decDX => decDX | .decBX => decBX | .decSP => decSP
  | .decBP => decBP | .decSI => decSI | .decDI => decDI | .pushAX => pushAX | .pushCX => pushCX | .pushDX => pushDX
  | .pushBX => pushBX | .pushSP => pushSP | .pushBP => pushBP | .pushSI => pushSI | .pushDI => pushDI
  | .popAX => popAX | .popCX => popCX | .popDX => popDX | .popBX => popBX | .popSP => popSP | .popBP => popBP
  | .popSI => popSI | .popDI => popDI | .joJb rel => joJb rel | .jnoJb rel => jnoJb rel | .jbJb rel => jbJb rel
  | .jaeJb rel => jaeJb rel | .jeJb rel => jeJb rel | .jneJb rel => jneJb rel | .jbeJb rel => jbeJb rel
  | .jaJb rel => jaJb rel | .jsJb rel => jsJb rel | .jnsJb rel => jnsJb rel | .jpJb rel => jpJb rel
  | .jnpJb rel => jnpJb rel | .jlJb rel => jlJb rel | .jgeJb rel => jgeJb rel | .jleJb rel => jleJb rel
  | .jgJb rel => jgJb rel | .addEbIb m imm => addEbIb m imm | .orEbIb m imm => orEbIb m imm
  | .adcEbIb m imm => adcEbIb m imm | .sbbEbIb m imm => sbbEbIb m imm | .andEbIb m imm => andEbIb m imm
  | .subEbIb m imm => subEbIb m imm | .xorEbIb m imm => xorEbIb m imm | .cmpEbIb m imm => cmpEbIb m imm
  | .addEwIw m imm => addEwIw m imm | .orEwIw m imm => orEwIw m imm | .adcEwIw m imm => adcEwIw m imm
  | .sbbEwIw m imm => sbbEwIw m imm | .andEwIw m imm => andEwIw m imm | .subEwIw m imm => subEwIw m imm
  | .xorEwIw m imm => xorEwIw m imm | .cmpEwIw m imm => cmpEwIw m imm | .addEwIbs m imm => addEwIbs m imm
  | .orEwIbs m imm => orEwIbs m imm | .adcEwIbs m imm => adcEwIbs m imm | .sbbEwIbs m imm => sbbEwIbs m imm
  | .andEwIbs m imm => andEwIbs m imm | .subEwIbs m imm => subEwIbs m imm | .xorEwIbs m imm => xorEwIbs m imm
  | .cmpEwIbs m imm => cmpEwIbs m imm | .testEbGb m g => testEbGb m g | .testEwGw m g => testEwGw m g
  | .xchgEbGb m g => xchgEbGb m g | .xchgEwGw m g => xchgEwGw m g | .movEbGb m g => movEbGb m g
  | .movEwGw m g => movEwGw m g | .movGbEb g m => movGbEb g m | .movGwEw g m => movGwEw g m
  | .movEwES m => movEwES m | .movEwCS m => movEwCS m | .movEwSS m => movEwSS m | .movEwDS m => movEwDS m
  | .leaGwM g m => leaGwM g m | .movESEw m => movESEw m | .movSSEw m => movSSEw m | .movDSEw m => movDSEw m
  | .popEw m => popEw m | .nop => nop | .xchgAXCX => xchgAXCX | .xchgAXDX => xchgAXDX | .xchgAXBX => xchgAXBX
  | .xchgAXSP => xchgAXSP | .xchgAXBP => xchgAXBP | .xchgAXSI => xchgAXSI | .xchgAXDI => xchgAXDI | .cbw => cbw
  | .cwd => cwd | .callAp off seg => callAp off seg | .wait => wait | .pushf => pushf | .popf => popf
  | .sahf => sahf | .lahf => lahf | .movALOb off => movALOb off | .movAXOw off => movAXOw off
  | .movObAL off => movObAL off | .movOwAX off => movOwAX off | .movsb => movsb | .movsw => movsw | .cmpsb => cmpsb
  | .cmpsw => cmpsw | .testALIb imm => testALIb imm | .testAXIw imm => testAXIw imm | .stosb => stosb
  | .stosw => stosw | .lodsb => lodsb | .lodsw => lodsw | .scasb => scasb | .scasw => scasw
  | .movALIb imm => movALIb imm | .movCLIb imm => movCLIb imm | .movDLIb imm => movDLIb imm
  | .movBLIb imm => movBLIb imm | .movAHIb imm => movAHIb imm | .movCHIb imm => movCHIb imm
  | .movDHIb imm => movDHIb imm | .movBHIb imm => movBHIb imm | .movAXIw imm => movAXIw imm
  | .movCXIw imm => movCXIw imm | .movDXIw imm => movDXIw imm | .movBXIw imm => movBXIw imm
  | .movSPIw imm => movSPIw imm | .movBPIw imm => movBPIw imm | .movSIIw imm => movSIIw imm
  | .movDIIw imm => movDIIw imm | .retIw imm => retIw imm | .ret => ret | .lesGwMp g a => lesGwMp g a
  | .ldsGwMp g a => ldsGwMp g a | .movEbIb m imm => movEbIb m imm | .movEwIw m imm => movEwIw m imm
  | .retfIw imm => retfIw imm | .retf => retf | .int3 => int3 | .intIb imm => intIb imm | .into => into
  | .iret => iret | .rolEb1 m => rolEb1 m | .rorEb1 m => rorEb1 m | .rclEb1 m => rclEb1 m | .rcrEb1 m => rcrEb1 m
  | .shlEb1 m => shlEb1 m | .shrEb1 m => shrEb1 m | .sarEb1 m => sarEb1 m | .rolEw1 m => rolEw1 m
  | .rorEw1 m => rorEw1 m | .rclEw1 m => rclEw1 m | .rcrEw1 m => rcrEw1 m | .shlEw1 m => shlEw1 m
  | .shrEw1 m => shrEw1 m | .sarEw1 m => sarEw1 m | .rolEbCL m => rolEbCL m | .rorEbCL m => rorEbCL m
  | .rclEbCL m => rclEbCL m | .rcrEbCL m => rcrEbCL m | .shlEbCL m => shlEbCL m | .shrEbCL m => shrEbCL m
  | .sarEbCL m => sarEbCL m | .rolEwCL m => rolEwCL m | .rorEwCL m => rorEwCL m | .rclEwCL m => rclEwCL m
  | .rcrEwCL m => rcrEwCL m | .shlEwCL m => shlEwCL m | .shrEwCL m => shrEwCL m | .sarEwCL m => sarEwCL m
  | .aamIb imm => aamIb imm | .aadIb imm => aadIb imm | .salc => salc | .xlat => xlat | .esc0E x m => esc0E x m
  | .esc1E x m => esc1E x m | .esc2E x m => esc2E x m | .esc3E x m => esc3E x m | .esc4E x m => esc4E x m
  | .esc5E x m => esc5E x m | .esc6E x m => esc6E x m | .esc7E x m => esc7E x m | .loopneJb rel => loopneJb rel
  | .loopeJb rel => loopeJb rel | .loopJb rel => loopJb rel | .jcxzJb rel => jcxzJb rel | .inALIb imm => inALIb imm
  | .inAXIb imm => inAXIb imm | .outIbAL imm => outIbAL imm | .outIbAX imm => outIbAX imm
  | .callJw rel => callJw rel | .jmpJw rel => jmpJw rel | .jmpAp off seg => jmpAp off seg | .jmpJb rel => jmpJb rel
  | .inALDX => inALDX | .inAXDX => inAXDX | .outDXAL => outDXAL | .outDXAX => outDXAX | .lock => lock
  | .repne => repne | .rep => rep | .hlt => hlt | .cmc => cmc | .testEbIb m imm => testEbIb m imm
  | .notEb m => notEb m | .negEb m => negEb m | .mulEb m => mulEb m | .imulEb m => imulEb m | .divEb m => divEb m
  | .idivEb m => idivEb m | .testEwIw m imm => testEwIw m imm | .notEw m => notEw m | .negEw m => negEw m
  | .mulEw m => mulEw m | .imulEw m => imulEw m | .divEw m => divEw m | .idivEw m => idivEw m | .clc => clc
  | .stc => stc | .cli => cli | .sti => sti | .cld => cld | .std => std | .incEb m => incEb m | .decEb m => decEb m
  | .incEw m => incEw m | .decEw m => decEw m | .callEw m => callEw m | .callMp a => callMp a | .jmpEw m => jmpEw m
  | .jmpMp a => jmpMp a | .pushEw m => pushEw m

theorem length_encodeRM_lt {n : Nat} (hn : 3 < n) (reg : BitVec 3) (m : RM (BitVec 3)) :
    (encodeRM reg m).length < n := by
  refine Nat.lt_of_le_of_lt ?_ hn
  unfold encodeRM
  split <;> simp [wordBytes]

theorem length_encodeRM_add_lt {n k : Nat} (hn : 3 + k < n) (reg : BitVec 3) (m : RM (BitVec 3)) :
    (encodeRM reg m).length + k < n := by
  have := length_encodeRM_lt (Nat.lt_sub_of_add_lt hn) reg m
  omega

theorem dispLength_le (b : Byte) : dispLength b ≤ 2 := by
  unfold dispLength
  split
  · split <;> omega
  all_goals omega

/-- A refused encoding is its opcode byte, ModR/M byte, displacement and immediate (30_encoding.md R313, R316). -/
theorem refusedLength_le (op : Byte) (modrm : Option Byte) : refusedLength op modrm ≤ 5 := by
  cases modrm with
  | none => exact Nat.zero_le _
  | some b =>
    have hd := dispLength_le b
    have hi : (if op = 0xC6 then 1 else if op = 0xC7 then 2 else 0) ≤ 2 := by
      split
      · omega
      · split <;> omega
    simp only [refusedLength]
    omega

/-- No instruction is longer than six bytes (30_encoding.md R300). -/
theorem length_encode_le {i : Instr} (h : i.wf = true) : (encode i).length ≤ maxLength := by
  cases i with
  | refused op bytes =>
    simp only [Instr.wf, Bool.and_eq_true, beq_iff_eq] at h
    have := refusedLength_le op bytes.head?
    simp only [encode, List.length_cons, maxLength]
    omega
  | _ => simp [encode, wordBytes, maxLength, length_encodeRM_lt, length_encodeRM_add_lt]

/-! ### The bytes the decoder sees -/

variable {s : State}

theorem getElem?_codeFrom (s : State) (off : Word) (k : Nat) {n j : Nat} (h : j < n) :
    (s.codeFrom off k n)[j]? = some (s.codeByte (lin s.sregs.cs (off + BitVec.ofNat 16 j)) (k + j)) := by
  induction n generalizing off k j with
  | zero => omega
  | succ n ih =>
    cases j with
    | zero => simp [State.codeFrom]
    | succ j =>
      have e : off + 1 + BitVec.ofNat 16 j = off + BitVec.ofNat 16 (j + 1) := by
        rw [BitVec.add_assoc, Nat.add_comm j 1, BitVec.ofNat_add]
        rfl
      rw [State.codeFrom, List.getElem?_cons_succ, ih _ _ (Nat.lt_of_succ_lt_succ h), e, Nat.add_assoc,
        Nat.add_comm 1 j]

theorem codeByte_ram {a : LinAddr} (h : s.IsRam a) (k : Nat) : s.codeByte a k = s.mem.read a := by
  have h' : s.plat.kindAt a = none := h
  simp only [State.codeByte, h']

/-- What the BIU can fetch for one instruction lies in plain RAM. -/
def FetchesRam (s : State) : Prop := ∀ k < 6, s.IsRam (lin s.sregs.cs (s.biu.pc + BitVec.ofNat 16 k))

/-- The k-th byte of the instruction stream: one the BIU holds, or one that memory holds at the fetch pointer
(20_memory.md R231). -/
def streamByte (s : State) (k : Nat) : Byte :=
  s.biu.held[k]?.getD (s.mem.read (lin s.sregs.cs (s.biu.pc + BitVec.ofNat 16 (k - s.biu.held.length))))

/-- The decoder sees the instruction stream. -/
theorem getElem?_window (h : FetchesRam s) {k : Nat} (hk : k < maxLength) : s.window[k]? = some (streamByte s k) := by
  unfold State.window
  by_cases hl : k < s.biu.held.length
  · rw [List.getElem?_append_left hl]
    simp [streamByte, hl]
  · have hj : k - s.biu.held.length < maxLength - s.biu.held.length := by omega
    have h6 : k - s.biu.held.length < 6 := by
      simp only [maxLength] at hk
      omega
    rw [List.getElem?_append_right (by omega), getElem?_codeFrom s _ 0 hj, codeByte_ram (h _ h6)]
    simp [streamByte, hl]

/-- Where the instruction stream starts with the bytes of an instruction, the decoder gives it. -/
theorem decode_window {i : Instr} (hw : i.wf = true) (hram : FetchesRam s)
    (hb : ∀ k, (h : k < (encode i).length) → streamByte s k = (encode i)[k]) :
    ∃ rest, decode s.window = .ok (i, rest) ∧ s.window.length - rest.length = (encode i).length := by
  have hp : encode i <+: s.window := by
    refine List.prefix_iff_getElem?.mpr fun k hk => ?_
    rw [getElem?_window hram (Nat.lt_of_lt_of_le hk (length_encode_le hw)), hb k hk]
  obtain ⟨rest, hr⟩ := hp
  refine ⟨rest, hr ▸ decode_encode i hw rest, ?_⟩
  rw [← hr, List.length_append, Nat.add_sub_cancel]

/-! ### The step -/

/-- An instruction without prefixes before it runs with its bytes taken. -/
theorem runFrom_of_decode {n : Nat} {i : Instr} {rest : List Byte} (h : decode s.window = .ok (i, rest))
    (hp : i.isPrefix = false) (hr : s.eu.repPrefix = none) :
    State.runFrom (n + 1) s =
      exec i ((s.consume (s.window.length - rest.length)).prefetch s.pins.prefetch) := by
  simp [State.runFrom, h, hp, State.runDecoded, hr]

theorem held_consume (s : State) (n : Nat) : (s.consume n).biu.held = s.biu.held.drop n :=
  held_setHeld s.biu _

theorem pc_consume (s : State) (n : Nat) :
    (s.consume n).biu.pc = s.biu.pc + BitVec.ofNat 16 (n - s.biu.held.length) := rfl

theorem fetchable_zero (b : Biu) : b.fetchable 0 = 0 := by
  simp [Biu.fetchable]

/-- A BIU that is asked to fetch nothing holds and fetches next what it did. -/
theorem held_prefetch_zero (s : State) : (s.prefetch 0).biu.held = s.biu.held := by
  refine (held_setHeld s.biu _).trans ?_
  simp [fetchable_zero, State.codeFrom]

theorem pc_prefetch_zero (s : State) : (s.prefetch 0).biu.pc = s.biu.pc := by
  simp [State.prefetch, fetchable_zero]

/-- With no interrupt asserted, latched or armed the boundary check only ends the shadows. -/
theorem boundaryCheck_quiet (hin : s.nextInput = StepInput.idle) (hn : s.eu.nmiLatch = false)
    (ht : s.eu.trapArmed = false) : s.beginStep.boundaryCheck = (false, s.beginStep.clearShadows) := by
  have he : s.beginStep.entriesDue = [] := by
    rw [entriesDue_nil]
    simp [State.nmiDue, State.intrDue, State.trapDue, State.beginStep, hin, hn, ht, StepInput.idle]
  simp [State.boundaryCheck, he]

@[simp] theorem beginStep_regs (s : State) : s.beginStep.regs = s.regs := rfl
@[simp] theorem beginStep_sregs (s : State) : s.beginStep.sregs = s.sregs := rfl
@[simp] theorem beginStep_ip (s : State) : s.beginStep.ip = s.ip := rfl
@[simp] theorem beginStep_flags (s : State) : s.beginStep.flags = s.flags := rfl
@[simp] theorem beginStep_mem (s : State) : s.beginStep.mem = s.mem := rfl
@[simp] theorem beginStep_plat (s : State) : s.beginStep.plat = s.plat := rfl
@[simp] theorem beginStep_cfg (s : State) : s.beginStep.cfg = s.cfg := rfl
@[simp] theorem beginStep_pins (s : State) : s.beginStep.pins = s.nextInput := rfl
@[simp] theorem beginStep_bus (s : State) : s.beginStep.bus = [] := rfl
@[simp] theorem beginStep_refused (s : State) : s.beginStep.refused = s.refused := rfl

/-- A BIU with no code fetch under way is brought to rest as it is. -/
theorem held_beginStep (h : s.biu.codeInFlight = false) : s.beginStep.biu.held = s.biu.held := by
  have he : s.biu.codeExpected = false := by simp [Biu.codeExpected, h]
  have hb : s.beginStep.biu.held = s.biu.preload.toList ++ if s.biu.codeExpected then _ else s.biu.queue := rfl
  rw [hb, he]
  rfl

/-- With nothing in progress and no interrupt due a step runs the instruction at CS:IP (30_encoding.md R315). -/
theorem step_runInstruction (hr : s.refused = false) (hin : s.nextInput.reset = false) (hd : s.eu.decoding = false)
    (hh : s.eu.halted = false) (hw : s.eu.waiting = false) (hrep : s.eu.rep = none)
    (hb : s.beginStep.boundaryCheck = (false, s.beginStep.clearShadows)) :
    step s = s.beginStep.clearShadows.runInstruction := by
  have hd' : s.beginStep.eu.decoding = false := hd
  have hh' : s.beginStep.clearShadows.eu.halted = false := hh
  have hw' : s.beginStep.clearShadows.eu.waiting = false := hw
  have hrep' : s.beginStep.clearShadows.eu.rep = none := hrep
  simp [step, hr, State.runStep, hin, hd', hb, State.proceed, hh', hw', hrep']

/-- The first instruction of a step, where the stream starts with its bytes and the BIU is not asked to fetch ahead. -/
theorem runFrom_prefixLimit {i : Instr} (hw : i.wf = true) (hp : i.isPrefix = false) (hr : s.eu.repPrefix = none)
    (hf : s.pins.prefetch = 0) (hram : FetchesRam s)
    (hb : ∀ k, (h : k < (encode i).length) → streamByte s k = (encode i)[k]) :
    State.runFrom prefixLimit s = exec i ((s.consume (encode i).length).prefetch 0) := by
  obtain ⟨rest, hdec, hlen⟩ := decode_window hw hram hb
  have hl : prefixLimit = 65535 + 1 := rfl
  rw [hl, runFrom_of_decode hdec hp hr, hlen, hf]

/-- Settles O55: the boundary check lets the step go on, the window starts with the bytes of the instruction, and what is
left of the BIU after they are taken is read off `State.consume`. -/
theorem stepRunsBytesInMemory : Obligations.StepRunsBytesInMemory := by
  intro s i hinv hr hin hd hcf hh hw hrep hn ht hwf hpre hram hbytes
  obtain ⟨-, -, hip, -, -⟩ := hinv
  have hb := boundaryCheck_quiet hin hn ht
  let c := s.beginStep.clearShadows.beginInstruction
  have hc : c.biu.held = s.biu.held := held_beginStep hcf
  have hbytes' : ∀ k, (h : k < (encode i).length) → streamByte c k = (encode i)[k] := by
    unfold streamByte
    rw [hc]
    exact hbytes
  have hrun : State.runFrom prefixLimit c = exec i ((c.consume (encode i).length).prefetch 0) :=
    runFrom_prefixLimit hwf hpre rfl (congrArg StepInput.prefetch hin) hram hbytes'
  have hstep : step s = finish s.beginStep.boundaryCheck.2 (exec i ((c.consume (encode i).length).prefetch 0)) := by
    rw [step_runInstruction hr (congrArg StepInput.reset hin) hd hh hw hrep hb, hb, ← hrun]
    rfl
  have heu : c.eu = { s.eu with
      trapArmed := s.flags.tf, lockActive := false, segOverride := none, repPrefix := none, inhibitAll := false,
      inhibitIntr := false, mcPc := Config.freeMcPc s.settle.draws } := by
    have hnmi : (s.eu.nmiLatch || s.nextInput.nmi) = s.eu.nmiLatch := by simp [hin, StepInput.idle]
    exact congrArg (fun x => { c.eu with nmiLatch := x }) hnmi
  have hpc : c.biu.pc = s.biu.pc := rfl
  refine ⟨fun h0 => ?_, (c.consume (encode i).length).prefetch 0, hstep, ?_⟩
  · simpa [State.IpOk, Biu.derivedIp, h0, Biu.codeExpected, hcf] using hip
  · rw [held_prefetch_zero, held_consume, pc_prefetch_zero, pc_consume, prefetch_eu, consume_eu, heu, hc, hpc]
    simp [c, hr]

end Sys2Proof.Proofs
end

section
/-! The parts of a tick of the bus (20_memory.md R253): what each leaves alone and does, and from them the invariant of the
BIU and PC minus the bytes held. -/

namespace Sys2Proof.Proofs

open Sys2Proof Sys2Proof.Machine Sys2Proof.Laws

variable {b c : Biu} {t : TState} {s : State}

/-! ### The stages of a tick -/

/-- The BIU after the bus actions of a tick (R253, steps 1 and 2). -/
def acted (s : State) (acts : List EuAction) (a : FabricAnswer) : Biu :=
  (State.busActions { s with biu := (s.biu.euStep s.biu.tState acts).biu } s.biu.tState a).biu

/-- The fetch decision of a tick in which the bus actions have left `b`, with the timer gone on (R253, steps 3 and 4). -/
def decided (b : Biu) (t : TState) : Decision :=
  if t == .ti || t == .t2 || b.fetch == .delayed 0 then { b with fetch := b.fetch.tick }.decision t else .nothing

/-- The BIU after the address pipeline of a tick in which the bus actions have left `b` (R253, steps 3 to 5). -/
def piped (b : Biu) (t : TState) (cs : Word) : Biu :=
  { b with fetch := (decided b t).fetch b.fetch.tick }.pipeline t
    (if decided b t = Decision.start then some (Request.code cs b.pc) else none)

/-- A tick is its stages, one after the other. -/
theorem busTick_biu (s : State) (acts : List EuAction) (a : FabricAnswer) :
    (s.busTick acts a).1.biu =
      { (piped (acted s acts a) s.biu.tState s.sregs.cs).nextT s.biu.tState with
        lockSignal := s.biu.lockHeld || (piped (acted s acts a) s.biu.tState s.sregs.cs).status == .intAck
        elapsed := if s.biu.tState = .t3 then 1 else s.biu.elapsed + 1 } := by
  rfl

/-- The record shows the queue operation of the EU's actions (R252). -/
theorem queueOp_busTick (s : State) (acts : List EuAction) (a : FabricAnswer) :
    (s.busTick acts a).2.queueOp = (s.biu.euStep s.biu.tState acts).op := rfl

/-! ### The EU's actions -/

/-- The read of the queue that an action is. -/
def readOf : EuAction → Option QueueRead
  | .popFirst => some .first
  | .popAfterPrefix => some .afterPrefix
  | .popNext => some .next
  | .fetchNext => some .fetchNext
  | _ => none

/-- What an action can do: read the queue; change the fetch state or take the byte of the preload slot, at no tick; or spend
the tick on a request, a flush or a halt (R220, R230, R231, R236, R244). -/
theorem act_cases (b : Biu) (t : TState) (a : EuAction) :
    (∃ q, readOf a = some q ∧ (q = .first ∨ q = .fetchNext → b.preload = none) ∧ b.act t a = b.readQueue q) ∨
      (∃ f p, (b.act t a).biu = { b with fetch := f, preload := p } ∧ (b.act t a).spent = false ∧
        (p = b.preload ∨ (a = .popFirst ∧ p = none))) ∨
      (b.act t a).spent = true ∧
        ((∃ k w x y v, a = .transfer k w x y v ∧
            (b.act t a).biu = b.request t (Request.first k w x v) (Request.second k w y v)) ∨
          (∃ ip, a = .flush ip ∧ (b.act t a).biu = b.flush ip) ∨
          ∃ x v, (b.act t a).biu = { b.cancelCode with fetch := .halted, haltPending := some (Request.haltPulse x v) }) := by
  cases a with
  | popFirst =>
    cases h : b.preload with
    | none => exact .inl ⟨.first, rfl, fun _ => rfl, by simp [Biu.act, h]⟩
    | some v => exact .inr (.inl ⟨b.fetch, none, by simp [Biu.act, h]⟩)
  | fetchNext =>
    cases h : b.preload with
    | none => exact .inl ⟨.fetchNext, rfl, fun _ => rfl, by simp [Biu.act, h]⟩
    | some v => exact .inr (.inl ⟨b.fetch, some v, by simp only [Biu.act, h]; rw [← h], by simp [Biu.act, h], .inl rfl⟩)
  | popAfterPrefix => exact .inl ⟨.afterPrefix, rfl, by simp, rfl⟩
  | popNext => exact .inl ⟨.next, rfl, by simp, rfl⟩
  | suspend | resume | fetchHalt => exact .inr (.inl ⟨_, b.preload, rfl, rfl, .inl rfl⟩)
  | transfer k w x y v => exact .inr (.inr ⟨rfl, .inl ⟨k, w, x, y, v, rfl, rfl⟩⟩)
  | flush ip => exact .inr (.inr ⟨rfl, .inr (.inl ⟨ip, rfl, rfl⟩)⟩)
  | halt x v => exact .inr (.inr ⟨rfl, .inr (.inr ⟨x, v, rfl⟩)⟩)

theorem readQueue_spent (b : Biu) (q : QueueRead) : (b.readQueue q).spent = true := by
  obtain ⟨-, e⟩ | ⟨v, rest, -, e, -⟩ := readQueue_cases b q <;> rw [e]

/-- An action that does not spend the tick holds the EU in no read of the queue (R231). -/
theorem queueWait_act (b : Biu) (a : EuAction) (h : b.queueWait = none) (hs : (b.act t a).spent = false) :
    (b.act t a).biu.queueWait = none := by
  obtain ⟨q, -, -, e⟩ | ⟨f, p, e, -⟩ | ⟨hs', -⟩ := act_cases b t a
  · rw [e, readQueue_spent] at hs
    cases hs
  · rw [e]
    exact h
  · rw [hs'] at hs
    cases hs

/-- The bus is where it was: nothing is latched, and no T-state passes. -/
structure SameBus (b c : Biu) : Prop where
  status : c.status = b.status
  tState : c.tState = b.tState
  addr : c.addr = b.addr
  data : c.data = b.data
  transferN : c.transferN = b.transferN
  finalTransfer : c.finalTransfer = b.finalTransfer
  waitRemaining : c.waitRemaining = b.waitRemaining
  committed : c.committed = b.committed

theorem SameBus.refl (b : Biu) : SameBus b b := ⟨rfl, rfl, rfl, rfl, rfl, rfl, rfl, rfl⟩

theorem SameBus.trans {d : Biu} (h : SameBus b c) (h' : SameBus c d) : SameBus b d :=
  ⟨h'.1.trans h.1, h'.2.trans h.2, h'.3.trans h.3, h'.4.trans h.4, h'.5.trans h.5, h'.6.trans h.6, h'.7.trans h.7,
    h'.8.trans h.8⟩

theorem sameBus_readQueue (b : Biu) (q : QueueRead) : SameBus b (b.readQueue q).biu := by
  obtain ⟨-, e⟩ | ⟨v, rest, -, -, -, -, e⟩ := readQueue_cases b q <;> rw [e] <;>
    exact ⟨rfl, rfl, rfl, rfl, rfl, rfl, rfl, rfl⟩

theorem sameBus_act (b : Biu) (t : TState) (a : EuAction) : SameBus b (b.act t a).biu := by
  obtain ⟨q, -, -, e⟩ | ⟨f, p, e, -⟩ | ⟨-, ⟨k, w, x, y, v, -, e⟩ | ⟨ip, -, e⟩ | ⟨x, v, e⟩⟩ := act_cases b t a <;> rw [e]
  · exact sameBus_readQueue b q
  all_goals exact ⟨rfl, rfl, rfl, rfl, rfl, rfl, rfl, rfl⟩

theorem sameBus_euStep (b : Biu) (t : TState) (acts : List EuAction) : SameBus b (b.euStep t acts).biu :=
  euStep_keeps (P := SameBus b) (fun c a h _ _ => h.trans (sameBus_act c t a)) queueWait_act
    (fun c q h _ => h.trans (sameBus_readQueue c q)) (.refl b) acts

/-! ### What the bus actions, the pipeline and the next T-state leave alone -/

/-- The bus actions of each T-state (R229, R241, R242). -/
theorem busActions_cases (s : State) (t : TState) (a : FabricAnswer) :
    (t = .t1 ∧ ∃ r, s.biu.committed = some r ∧ (s.busActions t a).biu =
        { s.biu with
          committed := none, status := r.kind, addr := r.addr, data := r.data, transferSize := .byte
          operandSize := r.operandSize, transferN := r.transferN, finalTransfer := r.finalTransfer, waitRemaining := 0
          pc := if r.kind = .codeFetch ∧ s.biu.discarded = false then s.biu.pc + 1 else s.biu.pc }) ∨
      ((t = .t1 → s.biu.committed = none) ∧ (t = .t2 → s.biu.finalTransfer = false → s.biu.nextHalf = none) ∧
        t ≠ .t4 ∧ ∃ d n, (s.busActions t a).biu = { s.biu with data := d, waitRemaining := n }) ∨
      (t = .t2 ∧ ∃ r, s.biu.finalTransfer = false ∧ s.biu.nextHalf = some r ∧ (s.busActions t a).biu =
        { s.biu with euWaiting := some r, nextHalf := none, pending := .euEarly }) ∨
      (t = .t4 ∧ s.biu.status = .codeFetch ∧ (s.busActions t a).biu =
        { s.biu with
          queue := if s.biu.discarded then s.biu.queue else s.biu.queue ++ [s.biu.data], discarded := false }) ∨
      (t = .t4 ∧ s.biu.status ≠ .codeFetch ∧ ∃ d, (s.busActions t a).biu =
        { s.biu with delivered := d, fetch := if s.biu.fetch = .pausedFull then .normal else s.biu.fetch }) := by
  cases t with
  | t1 =>
    cases h : s.biu.committed with
    | some r => exact .inl ⟨rfl, r, rfl, by simp [State.busActions, Biu.tickT1, h]⟩
    | none => exact .inr (.inl ⟨fun _ => rfl, nofun, nofun, s.biu.data, s.biu.waitRemaining,
        show s.biu.tickT1 = s.biu by simp [Biu.tickT1, h]⟩)
  | t2 =>
    by_cases h : s.biu.finalTransfer = false ∧ s.biu.nextHalf ≠ none
    · obtain ⟨hf, hn⟩ := h
      obtain ⟨r, hr⟩ := Option.ne_none_iff_exists'.mp hn
      exact .inr (.inr (.inl ⟨rfl, r, hf, hr, by simp [State.busActions, Biu.tickT2, hf, hr]⟩))
    · have e : s.biu.tickT2 = s.biu := by
        cases hf : s.biu.finalTransfer <;> cases hn : s.biu.nextHalf <;> simp_all [Biu.tickT2]
      exact .inr (.inl ⟨nofun, fun _ hf => by simpa [hf] using h, nofun, s.biu.data, s.biu.waitRemaining, e⟩)
  | t4 =>
    by_cases h : s.biu.status = .codeFetch
    · exact .inr (.inr (.inr (.inl ⟨rfl, h, by simp [State.busActions, Biu.tickT4, h]⟩)))
    · exact .inr (.inr (.inr (.inr ⟨rfl, h, _, by simp only [State.busActions, Biu.tickT4, h, if_false]; rfl⟩)))
  | _ => exact .inr (.inl ⟨nofun, nofun, nofun, _, _, rfl⟩)

/-- The bus actions do nothing to the preload slot, the address pipeline, or a read or a halt that is waited for. -/
@[simp] theorem busActions_frame (s : State) (t : TState) (a : FabricAnswer) :
    (s.busActions t a).biu.preload = s.biu.preload ∧ (s.busActions t a).biu.tState = s.biu.tState ∧
      (s.busActions t a).biu.ta = s.biu.ta ∧ (s.busActions t a).biu.abortLeft = s.biu.abortLeft ∧
      (s.busActions t a).biu.owner = s.biu.owner ∧ (s.busActions t a).biu.haltPending = s.biu.haltPending ∧
      (s.busActions t a).biu.queueWait = s.biu.queueWait := by
  obtain ⟨-, r, -, e⟩ | ⟨-, -, -, d, n, e⟩ | ⟨-, r, -, -, e⟩ | ⟨-, -, e⟩ | ⟨-, -, d, e⟩ := busActions_cases s t a <;>
    simp [e]

/-- The address pipeline moves requests, and nothing else. -/
@[simp] theorem pipeline_frame (b : Biu) (t : TState) (r : Option Request) :
    (b.pipeline t r).queue = b.queue ∧ (b.pipeline t r).preload = b.preload ∧ (b.pipeline t r).pc = b.pc ∧
      (b.pipeline t r).fetch = b.fetch ∧ (b.pipeline t r).status = b.status ∧ (b.pipeline t r).tState = b.tState ∧
      (b.pipeline t r).addr = b.addr ∧ (b.pipeline t r).transferN = b.transferN ∧
      (b.pipeline t r).finalTransfer = b.finalTransfer ∧ (b.pipeline t r).waitRemaining = b.waitRemaining ∧
      (b.pipeline t r).nextHalf = b.nextHalf ∧ (b.pipeline t r).discarded = b.discarded ∧
      (b.pipeline t r).haltPending = b.haltPending ∧ (b.pipeline t r).queueWait = b.queueWait := by
  unfold Biu.pipeline
  split
  · simp
  · split
    · simp
    · split <;> simp
    · simp
    · split <;> simp

/-- After a transaction comes the T1 of the committed one, else the halt pulse, else Ti (R223, R241, R244). -/
theorem nextIdle_cases (b : Biu) :
    (b.committed.isSome = true ∧ b.nextIdle = { b with tState := .t1 }) ∨
      (∃ r, b.committed = none ∧ b.haltPending = some r ∧
        b.nextIdle = { b with tState := .t1, committed := some r, haltPending := none }) ∨
      (b.committed = none ∧ b.nextIdle = { b with status := .passive, tState := .ti }) := by
  cases hc : b.committed with
  | some r => exact .inl ⟨rfl, by simp [Biu.nextIdle, hc]⟩
  | none =>
    by_cases hp : (b.haltPending.isSome && b.ta == .td && b.euWaiting.isNone) = true
    · obtain ⟨r, hr⟩ : ∃ r, b.haltPending = some r := Option.isSome_iff_exists.mp (by simp_all)
      exact .inr (.inl ⟨r, rfl, hr, by simp [Biu.nextIdle, hc, hp, ← hr]⟩)
    · exact .inr (.inr ⟨rfl, by simp only [Biu.nextIdle, hc, hp]; rfl⟩)

/-- A transaction goes on to its next T-state, from T1 to T4, or is over, as the halt pulse is after its T1 (R223, R244). -/
theorem nextT_cases (b : Biu) (t : TState) :
    (t = .tinit ∧ b.nextT t = { b with tState := .t1 }) ∨
      ((t = .t1 ∧ b.status ≠ .halt ∨ t = .t2 ∨ t = .t3 ∨ t = .tw) ∧
        ∃ u, (u = .t2 ∨ u = .t3 ∨ u = .tw ∨ u = .t4) ∧ b.nextT t = { b with tState := u }) ∨
      ((t = .t4 ∨ t = .ti ∨ (t = .t1 ∧ b.status = .halt)) ∧ b.nextT t = b.nextIdle) := by
  cases t with
  | tinit => exact .inl ⟨rfl, rfl⟩
  | t1 =>
    by_cases h : b.status = .halt
    · exact .inr (.inr ⟨by simp [h], by simp [Biu.nextT, h]⟩)
    · exact .inr (.inl ⟨by simp [h], .t2, by simp [Biu.nextT, h]⟩)
  | t2 => exact .inr (.inl ⟨by simp, .t3, by simp [Biu.nextT]⟩)
  | t3 | tw => exact .inr (.inl ⟨by simp, _, by split <;> simp, rfl⟩)
  | t4 | ti => exact .inr (.inr ⟨by simp, rfl⟩)

/-- The next T-state ends a transaction or starts one, and touches nothing else. -/
@[simp] theorem nextT_frame (b : Biu) (t : TState) :
    (b.nextT t).queue = b.queue ∧ (b.nextT t).preload = b.preload ∧ (b.nextT t).pc = b.pc ∧
      (b.nextT t).fetch = b.fetch ∧ (b.nextT t).addr = b.addr ∧ (b.nextT t).transferN = b.transferN ∧
      (b.nextT t).finalTransfer = b.finalTransfer ∧ (b.nextT t).waitRemaining = b.waitRemaining ∧
      (b.nextT t).nextHalf = b.nextHalf ∧ (b.nextT t).discarded = b.discarded ∧ (b.nextT t).ta = b.ta ∧
      (b.nextT t).abortLeft = b.abortLeft ∧ (b.nextT t).pending = b.pending ∧ (b.nextT t).owner = b.owner ∧
      (b.nextT t).euWaiting = b.euWaiting ∧ (b.nextT t).queueWait = b.queueWait := by
  obtain ⟨-, e⟩ | ⟨-, u, -, e⟩ | ⟨-, e⟩ := nextT_cases b t
  · simp [e]
  · simp [e]
  · obtain ⟨-, e'⟩ | ⟨r, -, -, e'⟩ | ⟨-, e'⟩ := nextIdle_cases b <;> simp [e, e']

end Sys2Proof.Proofs
end

section
/-! Every tick keeps the invariant of the BIU. -/

namespace Sys2Proof.Proofs

open Sys2Proof Sys2Proof.Machine Sys2Proof.Laws

variable {b c : Biu} {t : TState} {s : State}

/-! ### The invariant between the stages of a tick -/

/-- A code fetch on the bus in a tick of T-state `t` has not delivered its byte (20_memory.md R229). -/
def onBus (b : Biu) (t : TState) : Bool :=
  b.status == .codeFetch && (t == .t1 || t == .t2 || t == .t3 || t == .tw)

/-- The byte of a code fetch on the bus will enter the queue (R229, R230). -/
def expects (b : Biu) (t : TState) : Bool := onBus b t && !b.discarded

/-- The address pipeline in a tick in which a late request may have aborted its cycle, which is seen in the next one
(R239, R240). -/
def AbortOk (b : Biu) : Prop :=
  (b.abortLeft = 0 → (b.owner.isSome = true ↔ b.ta = .tr ∨ b.ta = .ts ∨ b.ta = .t0) ∧
    (b.ta = .ta → b.euWaiting.isSome = true)) ∧
  (b.abortLeft ≠ 0 → b.owner = none ∧ b.euWaiting.isSome = true)

/-- The bus in a tick of T-state `t` has a status once T1 has latched it (R222, R223, R244). -/
def StatusIn (b : Biu) (t : TState) : Prop :=
  t ≠ .tinit ∧ (t = .ti → b.status = .passive) ∧ (t ≠ .ti → b.status ≠ .passive) ∧
    (t ≠ .t1 → b.status ≠ .halt)

/-- The invariant after the EU's actions. -/
structure EuActed (b : Biu) : Prop where
  room : b.RoomOk
  commit : b.CommitOk
  pipeline : AbortOk b
  discard : b.DiscardOk
  status : b.StatusOk
  requests : b.RequestsOk
  wait : b.WaitOk

/-- The invariant after the bus actions of a tick of T-state `t`. -/
structure BusActed (b : Biu) (t : TState) : Prop where
  room : b.queue.length + countIf (expects b t) + countIf (Request.isCode b.owner) ≤ Config.queueSize
  commit : b.committed = none
  pipeline : AbortOk b
  discard : b.discarded = true → onBus b t = true
  status : StatusIn b t
  requests : b.RequestsOk
  wait : b.WaitOk

/-- The invariant after the address pipeline of a tick of T-state `t`. -/
structure Piped (b : Biu) (t : TState) : Prop where
  room : b.queue.length + countIf (expects b t) + countIf (Request.isCode b.owner) +
    countIf (Request.isCode b.committed) ≤ Config.queueSize
  commit : b.committed.isSome = true → t = .t4 ∨ t = .ti
  pipeline : b.PipelineOk
  discard : b.discarded = true → onBus b t = true
  status : StatusIn b t
  requests : b.RequestsOk
  wait : b.WaitOk

/-! ### The EU's actions -/

theorem abortOk_of_pipelineOk (h : b.PipelineOk) : AbortOk b := by
  obtain ⟨ho, ha, hw⟩ := h
  refine ⟨fun _ => ⟨ho, hw⟩, fun h0 => ?_⟩
  have hta := ha h0
  refine ⟨?_, hw hta⟩
  rw [hta] at ho
  simpa using ho

theorem euActed_of_inv (h : b.Inv) : EuActed b := by
  obtain ⟨hr, hc, hp, hd, hs, hq, hw⟩ := h
  exact ⟨hr, hc, abortOk_of_pipelineOk hp, hd, hs, hq, hw⟩

/-- An EU that is not blocked has no request outstanding (R220). -/
theorem not_euBusy (h : b.euBusy = false) : b.euWaiting = none ∧ b.haltPending = none := by
  simp only [Biu.euBusy, Bool.or_eq_false_iff, Option.isSome_eq_false_iff, Option.isNone_iff_eq_none] at h
  obtain ⟨⟨⟨⟨⟨hw, -⟩, -⟩, -⟩, hh⟩, -⟩ := h
  exact ⟨hw, hh⟩

theorem EuActed.setFetch (h : EuActed b) (f : FetchState) : EuActed { b with fetch := f } :=
  ⟨h.room, h.commit, h.pipeline, h.discard, h.status, h.requests, h.wait⟩

theorem EuActed.dropPreload (h : EuActed b) : EuActed { b with preload := none } :=
  ⟨h.room, h.commit, h.pipeline, h.discard, h.status, h.requests, fun _ => rfl⟩

theorem euActed_readQueue (h : EuActed b) {q : QueueRead} (hq : q = .first ∨ q = .fetchNext → b.preload = none) :
    EuActed (b.readQueue q).biu := by
  obtain ⟨-, e⟩ | ⟨v, rest, hv, -, -, -, e⟩ := readQueue_cases b q
  · rw [e]
    exact ⟨h.room, h.commit, h.pipeline, h.discard, h.status, h.requests, by simpa [Biu.WaitOk] using hq⟩
  · rw [e]
    refine ⟨?_, h.commit, h.pipeline, h.discard, h.status, h.requests, by simp [Biu.WaitOk]⟩
    have hr : (v :: rest).length + b.coming ≤ Config.queueSize := hv ▸ h.room
    exact Nat.le_trans (Nat.add_le_add_right (Nat.le_succ _) _) hr

/-- A code fetch owns the address cycle from Tr to T0 (R237). -/
theorem EuActed.codeAddressing (h : EuActed b) : b.codeAddressing = Request.isCode b.owner := by
  cases hc : Request.isCode b.owner with
  | false => simp [Biu.codeAddressing, hc]
  | true =>
    have hs : b.owner.isSome = true := by
      cases ho : b.owner <;> simp_all [Request.isCode]
    have h0 : b.abortLeft = 0 := by
      by_contra h0
      simp [(h.pipeline.2 h0).1] at hs
    simpa [Biu.codeAddressing, hc, or_assoc] using ((h.pipeline.1 h0).1.mp hs)

/-- Cancelling a code-fetch address cycle leaves the pipeline at rest. -/
theorem EuActed.cancelCode (h : EuActed b) : EuActed b.cancelCode := by
  obtain ⟨hc, e⟩ | ⟨-, e⟩ := cancelCode_cases b
  · have ho : Request.isCode b.owner = true := (Bool.and_eq_true_iff.mp hc).1
    rw [e]
    refine ⟨?_, h.commit, ⟨fun _ => by simp, fun h0 => ⟨rfl, (h.pipeline.2 h0).2⟩⟩, h.discard, h.status, ?_, h.wait⟩
    · have hr : b.queue.length + b.coming ≤ Config.queueSize := h.room
      have hle : (0 : Nat) ≤ countIf (Request.isCode b.owner) := Nat.zero_le _
      exact Nat.le_trans (Nat.add_le_add_left (Nat.add_le_add_left hle _) _) hr
    · obtain ⟨hw, hn, -, hm, hh⟩ := h.requests
      exact ⟨hw, hn, by simp, hm, hh⟩
  · rw [e]
    exact h

/-- After a flush no code byte is on its way to the queue (R230). -/
theorem coming_flush (h : EuActed b) (ip : Word) : (b.flush ip).coming = 0 := by
  have hi : (b.flush ip).codeInFlight = b.codeInFlight := rfl
  have ho : Request.isCode (b.flush ip).owner = false := by
    have e : (b.flush ip).owner = if b.codeAddressing then none else b.owner := rfl
    rw [e, h.codeAddressing]
    cases hc : Request.isCode b.owner
    · exact hc
    · rfl
  have hd : (b.flush ip).discarded = (b.discarded || b.codeInFlight || Request.isCode b.committed) := rfl
  have hm : (b.flush ip).committed = b.committed := rfl
  rw [Biu.coming, Biu.codeExpected, hi, ho, hd, hm]
  cases b.codeInFlight <;> cases Request.isCode b.committed <;> simp [countIf]

theorem euActed_flush (h : EuActed b) (ip : Word) : EuActed (b.flush ip) := by
  have k := h.cancelCode
  refine ⟨?_, k.commit, k.pipeline, ?_, k.status, k.requests, fun _ => rfl⟩
  · show ([] : List Byte).length + (b.flush ip).coming ≤ _
    rw [coming_flush h]
    exact Nat.zero_le _
  · intro hd
    have hd' : (b.discarded || b.codeInFlight || Request.isCode b.committed) = true := hd
    simp only [Bool.or_eq_true] at hd'
    obtain (h1 | h1) | h1 := hd'
    · exact h.discard h1
    · exact .inl h1
    · exact .inr h1

theorem euKind_isEu (k : EuKind) : k.status.isEu = true := by cases k <;> rfl

/-- A request of an EU that is not blocked. -/
theorem euActed_request (h : EuActed b) (hb : b.euBusy = false) (t : TState) (k : EuKind) (w : Width) (x y : LinAddr)
    (v : Word) : EuActed (b.request t (Request.first k w x v) (Request.second k w y v)) := by
  obtain ⟨hw, hh⟩ := not_euBusy hb
  have h0 : b.abortLeft = 0 := by
    by_contra h0
    simpa [hw] using (h.pipeline.2 h0).2
  have hta := (h.pipeline.1 h0).1
  have hsecond : ∀ r, Request.second k w y v = some r → r.kind.isEu = true := by
    rintro r hr
    cases w <;> cases hr
    exact euKind_isEu k
  obtain ⟨-, -, ho, hm, -⟩ := h.requests
  by_cases ha : (b.classify t == .euLate && b.codeAddressing) = true
  · have e : b.request t (Request.first k w x v) (Request.second k w y v) =
        { b with
          euWaiting := some (Request.first k w x v), nextHalf := Request.second k w y v, pending := b.classify t
          owner := none, abortLeft := Config.abortPenalty } := by
      simp only [Biu.request, ha, if_true]
    rw [e]
    refine ⟨?_, h.commit, ⟨by simp [Config.abortPenalty], fun _ => ⟨rfl, rfl⟩⟩, h.discard, h.status, ?_, h.wait⟩
    · exact Nat.le_trans (Nat.add_le_add_left (Nat.add_le_add_left (Nat.zero_le _) _) _) h.room
    · exact ⟨by rintro r ⟨⟩; exact euKind_isEu k, hsecond, by simp, hm, by simp [hh]⟩
  · have e : b.request t (Request.first k w x v) (Request.second k w y v) =
        { b with
          euWaiting := some (Request.first k w x v), nextHalf := Request.second k w y v, pending := b.classify t } := by
      simp only [Biu.request, ha, Bool.false_eq_true, if_false]
    rw [e]
    refine ⟨h.room, h.commit, ⟨fun _ => ⟨hta, fun _ => rfl⟩, fun hne => absurd h0 hne⟩, h.discard, h.status, ?_, h.wait⟩
    exact ⟨by rintro r ⟨⟩; exact euKind_isEu k, hsecond, ho, hm, by simp [hh]⟩

theorem euActed_act (h : EuActed b) {a : EuAction} (ha : b.accepts a = true) (t : TState) :
    EuActed (b.act t a).biu := by
  obtain ⟨q, -, hq, e⟩ | ⟨f, p, e, -, hp⟩ | ⟨-, ⟨k, w, x, y, v, rfl, e⟩ | ⟨ip, -, e⟩ | ⟨x, v, e⟩⟩ := act_cases b t a <;>
    rw [e]
  · exact euActed_readQueue h hq
  · obtain rfl | ⟨-, rfl⟩ := hp
    · exact h.setFetch f
    · exact (h.setFetch f).dropPreload
  · exact euActed_request h (by simpa [Biu.accepts] using ha) t k w x y v
  · exact euActed_flush h ip
  · have k := h.cancelCode.setFetch .halted
    obtain ⟨hw, hn, ho, hm, -⟩ := k.requests
    exact ⟨k.room, k.commit, k.pipeline, k.discard, k.status, ⟨hw, hn, ho, hm, by rintro r ⟨⟩; rfl⟩, k.wait⟩

theorem euActed_euStep (h : EuActed b) (t : TState) (acts : List EuAction) : EuActed (b.euStep t acts).biu :=
  euStep_keeps (P := EuActed) (fun _ _ h _ ha => euActed_act h ha t) queueWait_act
    (fun _ _ h hq => euActed_readQueue h fun hf => h.wait (hq ▸ hf.imp (congrArg some) (congrArg some))) h acts

/-! ### The bus actions -/

/-- A committed transaction is on the bus from T1 on (R241). -/
theorem committed_busActions (hc : s.biu.CommitOk) (a : FabricAnswer) :
    (s.busActions s.biu.tState a).biu.committed = none := by
  have hn : s.biu.tState ≠ .t1 → s.biu.committed = none := fun h => by simpa [h] using hc.mp.mt h
  obtain ⟨-, r, -, e⟩ | ⟨h1, -, -, d, n, e⟩ | ⟨ht, r, -, -, e⟩ | ⟨ht, -, e⟩ | ⟨ht, -, d, e⟩ :=
    busActions_cases s s.biu.tState a <;> rw [e]
  · by_cases ht : s.biu.tState = .t1
    · exact h1 ht
    · exact hn ht
  all_goals exact hn (by simp [ht])

/-- A code byte committed is expected from T1 on, and is in the queue from T4 on (R229, R230). -/
theorem length_busActions (hc : s.biu.CommitOk) (a : FabricAnswer) :
    (s.busActions s.biu.tState a).biu.queue.length + countIf (expects (s.busActions s.biu.tState a).biu s.biu.tState) =
      s.biu.queue.length + countIf s.biu.codeExpected +
        countIf (Request.isCode s.biu.committed && !s.biu.discarded) := by
  have hn : s.biu.tState ≠ .t1 → s.biu.committed = none := fun h => by simpa [h] using hc.mp.mt h
  simp only [Biu.codeExpected, Biu.codeInFlight]
  obtain ⟨ht, r, hm, e⟩ | ⟨h1, -, h4, d, n, e⟩ | ⟨ht, r, -, -, e⟩ | ⟨ht, hs, e⟩ | ⟨ht, hs, d, e⟩ :=
    busActions_cases s s.biu.tState a <;> rw [e]
  · simp [hm, ht, expects, onBus, Request.isCode, countIf]
  · have hm : s.biu.tState ≠ .t1 := fun ht => by simpa [h1 ht] using hc.mpr ht
    simp [hn hm, hm, h4, expects, onBus, Request.isCode, countIf]
  · simp [hn, ht, expects, onBus, Request.isCode, countIf]
  · cases hd : s.biu.discarded <;> simp [hn, ht, hs, expects, onBus, Request.isCode, countIf]
  · simp [hn, ht, hs, expects, onBus, Request.isCode, countIf]

/-- A discarded code fetch is on the bus from T1 to T4 (R230). -/
theorem discarded_busActions (h : EuActed s.biu) (a : FabricAnswer) :
    (s.busActions s.biu.tState a).biu.discarded = true → onBus (s.busActions s.biu.tState a).biu s.biu.tState = true := by
  have hd := h.discard
  have hn : s.biu.tState ≠ .t1 → s.biu.committed = none := fun ht => by simpa [ht] using h.commit.mp.mt ht
  simp only [Biu.DiscardOk, Biu.codeInFlight] at hd
  obtain ⟨ht, r, hm, e⟩ | ⟨h1, -, h4, d, n, e⟩ | ⟨ht, r, -, -, e⟩ | ⟨ht, hs, e⟩ | ⟨ht, hs, d, e⟩ :=
    busActions_cases s s.biu.tState a <;> rw [e]
  · simpa [hm, ht, onBus, Request.isCode] using hd
  · have hm : s.biu.tState ≠ .t1 := fun ht => by simpa [h1 ht] using h.commit.mpr ht
    simpa [hn hm, hm, h4, onBus, Request.isCode] using hd
  · simpa [hn, ht, onBus, Request.isCode] using hd
  · simp
  · have h0 : s.biu.discarded = false := by simpa [hn, ht, hs, Request.isCode] using hd
    simp [h0]

theorem statusIn_busActions (h : EuActed s.biu) (a : FabricAnswer) :
    StatusIn (s.busActions s.biu.tState a).biu s.biu.tState := by
  have hs := h.status
  unfold Biu.StatusOk at hs
  obtain ⟨ht, r, hm, e⟩ | ⟨h1, -, h4, d, n, e⟩ | ⟨ht, r, -, -, e⟩ | ⟨ht, -, e⟩ | ⟨ht, -, d, e⟩ :=
    busActions_cases s s.biu.tState a <;> rw [e]
  · obtain ⟨-, -, -, hk, -⟩ := h.requests
    simp [StatusIn, ht, hk r hm]
  · have hm : s.biu.tState ≠ .t1 := fun ht => by simpa [h1 ht] using h.commit.mpr ht
    unfold StatusIn
    cases ht : s.biu.tState <;> simp_all
  all_goals simpa [StatusIn, ht] using hs

/-- The second byte of a pair becomes the request that waits (R242). -/
theorem requestsOk_busActions (h : s.biu.RequestsOk) (t : TState) (a : FabricAnswer) :
    (s.busActions t a).biu.RequestsOk ∧
      (s.biu.euWaiting.isSome = true → (s.busActions t a).biu.euWaiting.isSome = true) := by
  obtain ⟨hw, hn, ho, hm, hh⟩ := h
  obtain ⟨-, r, -, e⟩ | ⟨-, -, -, d, n, e⟩ | ⟨-, r, -, hr, e⟩ | ⟨-, -, e⟩ | ⟨-, -, d, e⟩ := busActions_cases s t a <;>
    rw [e]
  · exact ⟨⟨hw, hn, ho, by simp, hh⟩, id⟩
  · exact ⟨⟨hw, hn, ho, hm, hh⟩, id⟩
  · exact ⟨⟨by rintro q ⟨⟩; exact hn r hr, by simp, ho, hm, hh⟩, fun _ => rfl⟩
  · exact ⟨⟨hw, hn, ho, hm, hh⟩, id⟩
  · exact ⟨⟨hw, hn, ho, hm, hh⟩, id⟩

theorem busActed_busActions (h : EuActed s.biu) (a : FabricAnswer) :
    BusActed (s.busActions s.biu.tState a).biu s.biu.tState := by
  obtain ⟨hq, hw⟩ := requestsOk_busActions h.requests s.biu.tState a
  obtain ⟨hp, hp'⟩ := h.pipeline
  refine ⟨?_, committed_busActions h.commit a, ⟨?_, ?_⟩, discarded_busActions h a, statusIn_busActions h a, hq, ?_⟩
  · have hr := h.room
    have ho : (s.busActions s.biu.tState a).biu.owner = s.biu.owner := by simp
    simp only [Biu.RoomOk, Biu.coming] at hr
    rw [length_busActions h.commit, ho]
    omega
  · simp only [busActions_frame]
    exact fun h0 => ⟨(hp h0).1, fun hta => hw ((hp h0).2 hta)⟩
  · simp only [busActions_frame]
    exact fun h0 => ⟨(hp' h0).1, hw (hp' h0).2⟩
  · simp only [Biu.WaitOk, busActions_frame]
    exact h.wait

/-! ### The fetch decision and the address pipeline -/

/-- Nothing holds a fetch decision up (R233, R236, R242). -/
structure Free (b : Biu) : Prop where
  fetch : b.fetch = .normal
  euWaiting : b.euWaiting = none
  pending : b.pending = .none
  lastHalf : b.status = .passive ∨ b.finalTransfer = true
  ta : b.ta = .td

theorem decision_of_not_free (h : ¬ Free b) (t : TState) : b.decision t = .nothing := by
  by_contra hd
  refine h ⟨?_, ?_, ?_, ?_, ?_⟩ <;> by_contra hn <;> refine hd ?_
  · simp [Biu.decision, hn]
  · simp [Biu.decision, Option.isSome_iff_ne_none.mpr hn]
  · simp [Biu.decision, hn]
  · simp only [not_or, Bool.not_eq_true] at hn
    simp [Biu.decision, hn]
  · simp [Biu.decision, hn]

/-- The decision by the room that the queue has, a byte on its way counted (R233 to R235). -/
theorem decision_of_free (h : Free b) (t : TState) (n : Nat)
    (hn : n = countIf (b.status == .codeFetch && t != .t4)) :
    b.decision t = if n = 1 ∧ b.queue.length = 3 then .delay else if 4 ≤ b.queue.length + n then .pause else .start := by
  have hl : ¬ (b.status ≠ .passive ∧ b.finalTransfer = false) := by
    rintro ⟨h1, h2⟩
    simpa [h1, h2] using h.lastHalf
  have hn' : n = if b.status = .codeFetch ∧ t ≠ .t4 then 1 else 0 := by simpa [countIf] using hn
  have hr : Config.queueSize - b.queue.length - n < Config.fetchMinFree ↔ 4 ≤ b.queue.length + n := by
    simp only [Config.queueSize, Config.fetchMinFree]
    omega
  simp only [Biu.decision, ← hn', h.fetch, h.euWaiting, h.pending, h.ta, hl, hr, Config.fetchPolicyLen]
  simp

/-- A code fetch is started where the pipeline is free and the queue has room for its byte (R233). -/
theorem room_of_start (h : decided b t = Decision.start) :
    b.euWaiting = none ∧ b.ta = .td ∧ b.queue.length + countIf (onBus b t) + 1 ≤ Config.queueSize := by
  have hd : { b with fetch := b.fetch.tick }.decision t = .start := by
    unfold decided at h
    split at h
    · exact h
    · cases h
  have hf : Free { b with fetch := b.fetch.tick } := by
    by_contra hf
    rw [decision_of_not_free hf] at hd
    cases hd
  refine ⟨hf.euWaiting, hf.ta, ?_⟩
  rw [decision_of_free hf t _ rfl] at hd
  have hle : countIf (onBus b t) ≤ countIf (b.status == .codeFetch && t != .t4) := by
    unfold onBus
    cases b.status == .codeFetch <;> cases t <;> decide
  split at hd
  · cases hd
  · split at hd
    · cases hd
    · simp only [Config.queueSize]
      dsimp only at *
      omega

theorem BusActed.setFetch (h : BusActed b t) (f : FetchState) : BusActed { b with fetch := f } t :=
  ⟨h.room, h.commit, h.pipeline, h.discard, h.status, h.requests, h.wait⟩

theorem isCode_of_isEu {r : Option Request} (h : ∀ q, r = some q → q.kind.isEu = true) : Request.isCode r = false := by
  cases r with
  | none => rfl
  | some q =>
    have hq := h q rfl
    cases hk : q.kind <;> simp_all [Request.isCode, BusStatus.isEu]

/-- One tick of the pipeline, which a code fetch enters only where it is free and the queue has room (R233, R237). -/
theorem piped_pipeline (h : BusActed b t) {r : Option Request} (hr : ∀ q, r = some q → q.kind = .codeFetch ∧
      b.euWaiting = none ∧ b.ta = .td ∧ b.queue.length + countIf (onBus b t) + 1 ≤ Config.queueSize) :
    Piped (b.pipeline t r) t := by
  obtain ⟨hroom, hc, ⟨hp, hp'⟩, hd, hs, ⟨qw, qn, qo, qm, qh⟩, hw⟩ := h
  have hc0 : countIf (Request.isCode b.committed) = 0 := by rw [hc]; rfl
  have hw0 : countIf (Request.isCode b.euWaiting) = 0 := by rw [isCode_of_isEu qw]; rfl
  have hroom' : b.queue.length + countIf (expects b t) + countIf (Request.isCode b.owner) +
      countIf (Request.isCode b.committed) ≤ Config.queueSize := by omega
  unfold Biu.pipeline
  split
  next h0 =>
    obtain ⟨ho, hwait⟩ := hp' h0
    exact ⟨hroom', by simp [hc], ⟨by simp [ho], fun _ => rfl, fun _ => hwait⟩, hd, hs, ⟨qw, qn, qo, qm, qh⟩, hw⟩
  next h0 =>
    have h0 : b.abortLeft = 0 := by simpa using h0
    obtain ⟨ho, hwait⟩ := hp h0
    split
    next hta =>
      refine ⟨?_, by simp [hc], ⟨by simpa using hwait hta, by simp [h0], by simp⟩, hd, hs,
        ⟨by simp, qn, fun q hq => .inl (qw q hq), qm, qh⟩, hw⟩
      show b.queue.length + countIf (expects b t) + countIf (Request.isCode b.euWaiting) +
        countIf (Request.isCode b.committed) ≤ Config.queueSize
      omega
    next hta =>
      split
      next q hq =>
        refine ⟨?_, by simp [hc], ⟨by simp, by simp [h0], by simp⟩, hd, hs,
          ⟨by simp, qn, fun q' hq' => .inl (qw q' (hq.trans hq')), qm, qh⟩, hw⟩
        show b.queue.length + countIf (expects b t) + countIf (Request.isCode (some q)) +
          countIf (Request.isCode b.committed) ≤ Config.queueSize
        rw [← hq]
        omega
      next q hq =>
        obtain ⟨hk, -, -, hx⟩ := hr q rfl
        refine ⟨?_, by simp [hc], ⟨by simp, by simp [h0], by simp⟩, hd, hs,
          ⟨qw, qn, by rintro q' ⟨⟩; exact .inr hk, qm, qh⟩, hw⟩
        show b.queue.length + countIf (onBus b t && !b.discarded) + countIf (Request.isCode (some q)) +
          countIf (Request.isCode b.committed) ≤ Config.queueSize
        have hle : countIf (onBus b t && !b.discarded) ≤ countIf (onBus b t) := by
          cases onBus b t <;> cases b.discarded <;> decide
        have hq1 : countIf (Request.isCode (some q)) = 1 := by simp [Request.isCode, hk, countIf]
        omega
      next => exact ⟨hroom', by simp [hc], ⟨ho, by simp [h0], hwait⟩, hd, hs, ⟨qw, qn, qo, qm, qh⟩, hw⟩
    next hta =>
      exact ⟨hroom', by simp [hc], ⟨by simp [ho, hta], by simp [h0], by simp⟩, hd, hs, ⟨qw, qn, qo, qm, qh⟩, hw⟩
    next hta1 hta2 hta3 =>
      split
      next ht =>
        refine ⟨?_, fun _ => ht.symm, ⟨by simp, by simp [h0], by simp⟩, hd, hs,
          ⟨qw, qn, by simp, fun q hq => ?_, qh⟩, hw⟩
        · show b.queue.length + countIf (expects b t) + countIf (Request.isCode none) +
            countIf (Request.isCode b.owner) ≤ Config.queueSize
          have hz : countIf (Request.isCode none) = 0 := rfl
          omega
        · intro hk
          obtain h1 | h1 := qo q hq <;> rw [hk] at h1 <;> cases h1
      next =>
        have hs' : b.owner.isSome = true := ho.mpr (by cases hta : b.ta <;> simp_all)
        exact ⟨hroom', by simp [hc], ⟨by simp [hs'], by simp [h0], by simp⟩, hd, hs, ⟨qw, qn, qo, qm, qh⟩, hw⟩

theorem piped_of_busActed (h : BusActed b t) (cs : Word) : Piped (piped b t cs) t := by
  refine piped_pipeline (h.setFetch _) fun q hq => ?_
  split at hq
  next hd =>
    cases hq
    exact ⟨rfl, room_of_start (b := b) hd⟩
  next => cases hq

/-! ### The next T-state -/

/-- The byte of a code fetch on the bus is still expected in the next tick (R229). -/
theorem codeExpected_nextT (b : Biu) (t : TState) : (b.nextT t).codeExpected = expects b t := by
  have hd : (b.nextT t).discarded = b.discarded := by simp
  simp only [Biu.codeExpected, Biu.codeInFlight, expects, onBus, hd]
  obtain ⟨rfl, e⟩ | ⟨ht, u, hu, e⟩ | ⟨ht, e⟩ := nextT_cases b t <;> rw [e]
  · rw [show (TState.t1 == .t2 || TState.t1 == .t3 || TState.t1 == .tw || TState.t1 == .t4) = false from rfl,
      show (TState.tinit == .t1 || TState.tinit == .t2 || TState.tinit == .t3 || TState.tinit == .tw) = false from rfl]
  · have h1 : (u == .t2 || u == .t3 || u == .tw || u == .t4) = true := by simpa [or_assoc] using hu
    have h2 : (t == .t1 || t == .t2 || t == .t3 || t == .tw) = true := by
      obtain ⟨rfl, -⟩ | rfl | rfl | rfl := ht <;> rfl
    rw [h1, h2]
  · have h1 : (b.status == .codeFetch && (t == .t1 || t == .t2 || t == .t3 || t == .tw)) = false := by
      obtain rfl | rfl | ⟨rfl, hs⟩ := ht <;> simp [*]
    rw [h1]
    obtain ⟨-, e'⟩ | ⟨r, -, -, e'⟩ | ⟨-, e'⟩ := nextIdle_cases b <;> simp [e']

theorem inv_nextIdle (h : Piped b t) (ht : t = .t4 ∨ t = .ti ∨ (t = .t1 ∧ b.status = .halt))
    (he : b.nextT t = b.nextIdle) : b.nextIdle.Inv := by
  have hx := codeExpected_nextT b t
  obtain ⟨hroom, hc, hp, hd, -, ⟨qw, qn, qo, qm, qh⟩, hw⟩ := h
  have hd0 : b.discarded = false := by
    have : onBus b t = false := by obtain rfl | rfl | ⟨rfl, hs⟩ := ht <;> simp [onBus, *]
    simpa [this] using hd
  have hroom' : ∀ m, Request.isCode m = Request.isCode b.committed →
      b.queue.length + (countIf b.nextIdle.codeExpected + countIf (Request.isCode m && !b.discarded) +
        countIf (Request.isCode b.owner)) ≤ Config.queueSize := fun m hm => by
    rw [← he, hx, hm, hd0, Bool.not_false, Bool.and_true]
    omega
  obtain ⟨hc', e⟩ | ⟨r, hc', hr, e⟩ | ⟨hc', e⟩ := nextIdle_cases b <;> rw [e] at hroom' ⊢
  · exact ⟨hroom' _ rfl, by simpa [Biu.CommitOk] using hc', hp, by simp [Biu.DiscardOk, hd0], trivial,
      ⟨qw, qn, qo, qm, qh⟩, hw⟩
  · refine ⟨hroom' (some r) ?_, by simp [Biu.CommitOk], hp, by simp [Biu.DiscardOk, hd0], trivial,
      ⟨qw, qn, qo, ?_, by simp⟩, hw⟩
    · simp [hc', Request.isCode, qh r hr]
    · rintro q ⟨⟩
      simp [qh r hr]
  · exact ⟨hroom' _ rfl, by simp [Biu.CommitOk, hc'], hp, by simp [Biu.DiscardOk, hd0], rfl,
      ⟨qw, qn, qo, qm, qh⟩, hw⟩

theorem inv_nextT (h : Piped b t) : (b.nextT t).Inv := by
  obtain ⟨ht, -⟩ | ⟨ht, u, hu, e⟩ | ⟨ht, e⟩ := nextT_cases b t
  · exact absurd ht h.status.1
  · have hx := codeExpected_nextT b t
    obtain ⟨hroom, hc, hp, hd, ⟨-, -, hs, hs'⟩, hq, hw⟩ := h
    have hc0 : b.committed = none := by
      obtain ⟨rfl, -⟩ | rfl | rfl | rfl := ht <;> simpa using hc
    have hk : b.status ≠ .passive ∧ b.status ≠ .halt := by
      obtain ⟨rfl, h1⟩ | rfl | rfl | rfl := ht
      · exact ⟨hs nofun, h1⟩
      all_goals exact ⟨hs nofun, hs' nofun⟩
    rw [e] at hx ⊢
    refine ⟨?_, ?_, hp, fun hd' => .inl ?_, ?_, hq, hw⟩
    · show b.queue.length + (countIf _ + countIf (Request.isCode b.committed && !b.discarded) +
        countIf (Request.isCode b.owner)) ≤ Config.queueSize
      rw [hx, hc0, show countIf (Request.isCode none && !b.discarded) = 0 from rfl]
      omega
    · obtain rfl | rfl | rfl | rfl := hu <;> simp [Biu.CommitOk, hc0]
    · have hb : b.status = .codeFetch := by
        simpa using (Bool.and_eq_true_iff.mp (hd hd')).1
      obtain rfl | rfl | rfl | rfl := hu <;> simp [Biu.codeInFlight, hb]
    · obtain rfl | rfl | rfl | rfl := hu <;> exact hk
  · rw [e]
    exact inv_nextIdle h ht e

theorem inv_busTick (h : s.biu.Inv) (acts : List EuAction) (a : FabricAnswer) : (s.busTick acts a).1.biu.Inv := by
  have ht := (sameBus_euStep s.biu s.biu.tState acts).tState
  have h1 := busActed_busActions (s := { s with biu := (s.biu.euStep s.biu.tState acts).biu })
    (euActed_euStep (euActed_of_inv h) s.biu.tState acts) a
  rw [ht] at h1
  rw [busTick_biu]
  exact inv_nextT (piped_of_busActed h1 s.sregs.cs)

/-- Settles O57: the invariant goes through the stages of a tick, weakened for the tick of an abort, and between the ticks the
EU only empties the preload slot. -/
theorem tickKeepsBusInvariant : Obligations.TickKeepsBusInvariant :=
  ⟨fun _ acts a h => inv_busTick h acts a, fun _ pins g a h =>
    tick_keeps (P := Biu.Inv) (fun _ acts a h => inv_busTick h acts a)
      (fun _ ⟨hr, hc, hp, hd, hs, hq, _⟩ => ⟨hr, hc, hp, hd, hs, hq, fun _ => rfl⟩)
      (fun _ _ h => h) resetMeetsInvariant.2 h pins g a⟩

end Sys2Proof.Proofs
end

section
/-! PC minus the bytes held, through the stages of a tick (20_memory.md R247, R248). -/

namespace Sys2Proof.Proofs

open Sys2Proof Sys2Proof.Machine Sys2Proof.Laws

variable {b : Biu} {t : TState} {s : State}

/-- The action takes no byte and does not flush. -/
def KeepsIp (a : EuAction) : Prop := a ≠ .popFirst ∧ a ≠ .popAfterPrefix ∧ a ≠ .popNext ∧ ∀ ip, a ≠ .flush ip

/-- PC minus the bytes held in a tick of T-state `t`, one in flight counted. -/
def ipIn (b : Biu) (t : TState) : Word := b.pc - BitVec.ofNat 16 (b.held.length + countIf (expects b t))

/-- `fetch_next()` moves a byte from the queue to the preload slot (R231). -/
theorem derivedIp_fetchNext (h : b.preload = none) : (b.readQueue .fetchNext).biu.derivedIp = b.derivedIp := by
  obtain ⟨-, e⟩ | ⟨v, rest, hv, -, -, -, e⟩ := readQueue_cases b .fetchNext <;> rw [e]
  · rfl
  · simp [Biu.derivedIp, Biu.held, Biu.codeExpected, Biu.codeInFlight, h, hv, Nat.add_comm]

theorem derivedIp_act {a : EuAction} (ha : KeepsIp a) (b : Biu) (t : TState) :
    (b.act t a).biu.derivedIp = b.derivedIp := by
  obtain ⟨h1, h2, h3, h4⟩ := ha
  obtain ⟨q, hr, hq, e⟩ | ⟨f, p, e, -, hp⟩ | ⟨-, ⟨k, w, x, y, v, -, e⟩ | ⟨ip, rfl, -⟩ | ⟨x, v, e⟩⟩ := act_cases b t a
  · have h : a = .fetchNext ∧ q = .fetchNext := by
      cases a <;> simp_all [readOf]
    rw [e, h.2]
    exact derivedIp_fetchNext (hq (.inr h.2))
  · obtain rfl | ⟨rfl, -⟩ := hp
    · rw [e]
      rfl
    · exact absurd rfl h1
  · rw [e]
    rfl
  · exact absurd rfl (h4 ip)
  · rw [e]
    rfl

theorem derivedIp_actAll {acts : List EuAction} (ha : ∀ x ∈ acts, KeepsIp x) (b : Biu) (t : TState) :
    (b.actAll t acts).biu.derivedIp = b.derivedIp := by
  induction acts generalizing b with
  | nil => rfl
  | cons a as ih =>
    have hact := derivedIp_act (ha a (.head as)) b t
    simp only [Biu.actAll]
    split
    · split
      · exact hact
      · exact (ih (fun x hx => ha x (.tail a hx)) _).trans hact
    · rfl

/-- The EU waits for no byte that it takes: `fetch_next()` at most. -/
theorem derivedIp_euStep {acts : List EuAction} (hw : b.WaitOk) (hq : b.queueWait ∈ [none, some .fetchNext])
    (ha : ∀ x ∈ acts, KeepsIp x) (t : TState) : (b.euStep t acts).biu.derivedIp = b.derivedIp := by
  unfold Biu.euStep
  split
  next q h =>
    obtain rfl : q = .fetchNext := by simpa [h] using hq
    exact derivedIp_fetchNext (hw (.inr h))
  next => exact derivedIp_actAll ha b t

/-- PC moves with the T1 of a code fetch whose byte will enter the queue (R230, R248). -/
theorem ipIn_busActions (hc : s.biu.CommitOk) (a : FabricAnswer) :
    ipIn (s.busActions s.biu.tState a).biu s.biu.tState = s.biu.derivedIp := by
  have hip : ∀ (pc : Word) (n : Nat), pc + 1 - BitVec.ofNat 16 (n + 1) = pc - BitVec.ofNat 16 n := fun pc n => by
    rw [BitVec.ofNat_add]
    exact add_sub_add_right_eq_sub pc _ 1
  simp only [Biu.derivedIp, Biu.codeExpected, Biu.codeInFlight]
  obtain ⟨ht, r, hm, e⟩ | ⟨h1, -, h4, d, n, e⟩ | ⟨ht, r, -, -, e⟩ | ⟨ht, hs, e⟩ | ⟨ht, hs, d, e⟩ :=
    busActions_cases s s.biu.tState a <;> rw [e]
  · by_cases hk : r.kind = .codeFetch ∧ s.biu.discarded = false
    · simpa [ipIn, Biu.held, ht, expects, onBus, hk, countIf] using hip _ _
    · have hx : (r.kind == .codeFetch && !s.biu.discarded) = false := by simpa using hk
      simp [ipIn, Biu.held, ht, expects, onBus, hk, hx, countIf]
  · have hm : s.biu.tState ≠ .t1 := fun ht => by simpa [h1 ht] using hc.mpr ht
    simp [ipIn, Biu.held, hm, h4, expects, onBus, countIf]
  · simp [ipIn, Biu.held, ht, expects, onBus, countIf]
  · by_cases hd : s.biu.discarded = true <;> simp [ipIn, Biu.held, ht, hs, hd, expects, onBus, countIf, Nat.add_assoc]
  · simp [ipIn, Biu.held, ht, hs, expects, onBus, countIf]

theorem ipIn_piped (b : Biu) (t : TState) (cs : Word) : ipIn (piped b t cs) t = ipIn b t := by
  simp [ipIn, piped, Biu.held, expects, onBus]

theorem derivedIp_nextT (b : Biu) (t : TState) : (b.nextT t).derivedIp = ipIn b t := by
  have h := codeExpected_nextT b t
  simp [Biu.derivedIp, h, ipIn, Biu.held, countIf]

/-- Settles O58: each stage of a tick keeps PC minus the bytes held. -/
theorem tickKeepsInstructionPointer : Obligations.TickKeepsInstructionPointer := by
  intro s acts a hinv hq ha
  obtain ⟨-, hc, -, -, -, -, hw⟩ := hinv
  have hb := sameBus_euStep s.biu s.biu.tState acts
  have hc' : (s.biu.euStep s.biu.tState acts).biu.CommitOk := by
    simpa only [Biu.CommitOk, hb.committed, hb.tState] using hc
  have h2 := ipIn_busActions (s := { s with biu := (s.biu.euStep s.biu.tState acts).biu }) hc' a
  rw [derivedIp_euStep hw hq ha, hb.tState] at h2
  rw [busTick_biu]
  exact (derivedIp_nextT ..).trans ((ipIn_piped ..).trans h2)

end Sys2Proof.Proofs
end

section
/-! The timing of transfers and the fetch decision, tick by tick (20_memory.md R221, R224, R233 to R242). -/

namespace Sys2Proof.Proofs

open Sys2Proof Sys2Proof.Machine Sys2Proof.Laws

variable {b c : Biu} {t : TState} {s : State} {r : Request}

/-! ### The address pipeline (R237, R239, R240) -/

theorem piped_penalty (h : b.abortLeft ≠ 0) (t : TState) (cs : Word) :
    ∃ f, piped b t cs = { b with fetch := f, ta := .ta, abortLeft := b.abortLeft - 1 } :=
  ⟨_, by simp only [piped, Biu.pipeline, h, ne_eq, not_false_eq_true, if_true]; rfl⟩

theorem piped_ta (h : b.abortLeft = 0) (hta : b.ta = .ta) (t : TState) (cs : Word) :
    ∃ f, piped b t cs = { b with fetch := f, ta := .tr, owner := b.euWaiting, euWaiting := none } :=
  ⟨_, by simp only [piped, Biu.pipeline, h, hta, ne_eq, not_true, if_false]; rfl⟩

/-- A request of the EU goes before a code fetch. -/
theorem piped_td_eu (h : b.abortLeft = 0) (hta : b.ta = .td) (hw : b.euWaiting = some r) (t : TState) (cs : Word) :
    ∃ f, piped b t cs = { b with fetch := f, ta := .tr, owner := some r, euWaiting := none } :=
  ⟨_, by simp only [piped, Biu.pipeline, h, hta, hw, ne_eq, not_true, if_false]; rfl⟩

/-- With the pipeline free and no request of the EU the fetch decision says what enters it. -/
theorem piped_td (h : b.abortLeft = 0) (hta : b.ta = .td) (hw : b.euWaiting = none) (t : TState) (cs : Word) :
    piped b t cs =
      if decided b t = Decision.start then
        { b with fetch := b.fetch.tick, ta := .tr, owner := some (Request.code cs b.pc) }
      else { b with fetch := (decided b t).fetch b.fetch.tick } := by
  cases hd : decided b t <;> simp [piped, Biu.pipeline, h, hta, hw, hd, Decision.fetch]

theorem piped_tr (h : b.abortLeft = 0) (hta : b.ta = .tr) (t : TState) (cs : Word) :
    ∃ f, piped b t cs = { b with fetch := f, ta := .ts } :=
  ⟨_, by simp only [piped, Biu.pipeline, h, hta, ne_eq, not_true, if_false]; rfl⟩

/-- An address cycle in Ts or T0 goes on in T0 while the bus is busy. -/
theorem piped_t0 (h : b.abortLeft = 0) (hta : b.ta = .ts ∨ b.ta = .t0) (ht : t ≠ .ti ∧ t ≠ .t4) (cs : Word) :
    ∃ f, piped b t cs = { b with fetch := f, ta := .t0 } := by
  obtain hta | hta := hta <;>
    exact ⟨_, by simp only [piped, Biu.pipeline, h, hta, ne_eq, not_true, if_false, ht, or_self]; rfl⟩

/-- An address cycle in Ts or T0 ends where the bus is free. -/
theorem piped_commit (h : b.abortLeft = 0) (hta : b.ta = .ts ∨ b.ta = .t0) (ht : t = .ti ∨ t = .t4) (cs : Word) :
    ∃ f p, piped b t cs = { b with fetch := f, ta := .td, committed := b.owner, owner := none, pending := p } := by
  obtain hta | hta := hta <;>
    exact ⟨_, _, by simp only [piped, Biu.pipeline, h, hta, ne_eq, not_true, if_false, ht, if_true]; rfl⟩

/-! ### An EU that does nothing, and one that makes a request -/

/-- The address pipeline and PC are where they were, and no request is made. -/
structure SamePipe (b c : Biu) : Prop where
  ta : c.ta = b.ta
  abortLeft : c.abortLeft = b.abortLeft
  owner : c.owner = b.owner
  euWaiting : c.euWaiting = b.euWaiting
  nextHalf : c.nextHalf = b.nextHalf
  haltPending : c.haltPending = b.haltPending
  pc : c.pc = b.pc

theorem samePipe_idle (b : Biu) (t : TState) : SamePipe b (b.euStep t []).biu := by
  unfold Biu.euStep
  split
  next q _ =>
    obtain ⟨-, e⟩ | ⟨v, rest, -, -, -, -, e⟩ := readQueue_cases b q <;> rw [e] <;>
      exact ⟨rfl, rfl, rfl, rfl, rfl, rfl, rfl⟩
  next => exact ⟨rfl, rfl, rfl, rfl, rfl, rfl, rfl⟩

/-- An EU that is free makes the one action it is asked for. -/
theorem euStep_single (hq : b.queueWait = none) (hb : b.euBusy = false) (t : TState) (a : EuAction) :
    (b.euStep t [a]).biu = (b.act t a).biu ∧ (b.euStep t [a]).op = if (b.act t a).spent then (b.act t a).op else .idle := by
  have ha : b.accepts a = true := by simp [Biu.accepts, hb]
  simp only [Biu.euStep, hq, Biu.actAll, ha, if_true]
  split <;> exact ⟨rfl, rfl⟩

/-! ### Wait states (R221, R224) -/

/-- T3 takes the fabric's wait states for a memory transaction, and none for any other. -/
theorem waitRemaining_t3 (ht : s.biu.tState = .t3) (acts : List EuAction) (a : FabricAnswer) :
    (s.busTick acts a).1.biu.waitRemaining = if s.biu.status.isMemory then a.waits else 0 := by
  simp [busTick_biu, piped, acted, ht, State.busActions, State.tickT3, (sameBus_euStep s.biu .t3 acts).status]

theorem waitRemaining_tw (ht : s.biu.tState = .tw) (acts : List EuAction) (a : FabricAnswer) :
    (s.busTick acts a).1.biu.waitRemaining = s.biu.waitRemaining - 1 := by
  simp [busTick_biu, piped, acted, ht, State.busActions, (sameBus_euStep s.biu .tw acts).waitRemaining]

/-- T4 comes when no wait state is left. -/
theorem tState_of_waitRemaining (ht : s.biu.tState = .t3 ∨ s.biu.tState = .tw) (acts : List EuAction) (a : FabricAnswer) :
    (s.busTick acts a).1.biu.tState = if 0 < (s.busTick acts a).1.biu.waitRemaining then .tw else .t4 := by
  rw [busTick_biu]
  obtain ht | ht := ht <;> simp [ht, Biu.nextT]

/-- The clause of O60 on wait states and the fabric call. -/
theorem waitStates (s : State) (acts : List EuAction) (d : Byte) (n : Nat) :
    (s.biu.tState = .t3 →
      s.fabricCall = some ⟨s.biu.status, s.biu.addr, s.biu.data, s.biu.elapsed⟩ ∧
        (s.busTick acts ⟨d, n⟩).1.biu.elapsed = 1 ∧
        (s.biu.status.isMemory = true → (s.busTick acts ⟨d, n⟩).1.biu.waitRemaining = n ∧
          (s.busTick acts ⟨d, n⟩).1.biu.tState = if n = 0 then .t4 else .tw) ∧
        (s.biu.status.isMemory = false → (s.busTick acts ⟨d, n⟩).1.biu.tState = .t4)) ∧
      (s.biu.tState ≠ .t3 → s.fabricCall = none ∧ (s.busTick acts ⟨d, n⟩).1.biu.elapsed = s.biu.elapsed + 1) ∧
      (s.biu.tState = .tw → (s.busTick acts ⟨d, n⟩).1.biu.waitRemaining = s.biu.waitRemaining - 1 ∧
        (s.busTick acts ⟨d, n⟩).1.biu.tState = if s.biu.waitRemaining ≤ 1 then .t4 else .tw) := by
  refine ⟨fun ht => ⟨?_, ?_, fun hm => ?_, fun hm => ?_⟩, fun ht => ⟨?_, ?_⟩, fun ht => ?_⟩
  · simp [State.fabricCall, ht]
  · simp [busTick_biu, ht]
  · have hw := waitRemaining_t3 ht acts ⟨d, n⟩
    simp only [hm, if_true] at hw
    refine ⟨hw, ?_⟩
    rw [tState_of_waitRemaining (.inl ht), hw]
    cases n <;> simp
  · rw [tState_of_waitRemaining (.inl ht), waitRemaining_t3 ht, hm]
    rfl
  · simp [State.fabricCall, ht]
  · simp [busTick_biu, ht]
  · have hw := waitRemaining_tw ht acts ⟨d, n⟩
    refine ⟨hw, ?_⟩
    rw [tState_of_waitRemaining (.inr ht), hw]
    by_cases h : s.biu.waitRemaining ≤ 1
    · rw [if_pos h, if_neg (by omega)]
    · rw [if_neg h, if_pos (by omega)]

/-! ### The second half of a word (R205, R242) -/

/-- The request owns the address cycle, and no penalty is counted. -/
structure Owned (r : Request) (b : Biu) : Prop where
  owner : b.owner = some r
  ta : b.ta = .tr ∨ b.ta = .ts ∨ b.ta = .t0
  abortLeft : b.abortLeft = 0

/-- What a tick's bus actions leave of the pipeline. -/
theorem acted_pipe (s : State) (a : FabricAnswer) :
    (acted s [] a).ta = s.biu.ta ∧ (acted s [] a).abortLeft = s.biu.abortLeft ∧ (acted s [] a).owner = s.biu.owner := by
  have h := samePipe_idle s.biu s.biu.tState
  simp [acted, h.ta, h.abortLeft, h.owner]

/-- In T2 of the first half the request for the second enters the pipeline. -/
theorem owned_t2 (ht : s.biu.tState = .t2) (hf : s.biu.finalTransfer = false) (hn : s.biu.nextHalf = some r)
    (hta : s.biu.ta = .td) (h0 : s.biu.abortLeft = 0) (a : FabricAnswer) :
    Owned r (s.busTick [] a).1.biu ∧ (s.busTick [] a).1.biu.tState = .t3 ∧
      (s.busTick [] a).1.biu.status = s.biu.status := by
  have hb := sameBus_euStep s.biu .t2 []
  have hp := samePipe_idle s.biu .t2
  obtain ⟨eta, e0, -⟩ := acted_pipe s a
  obtain ⟨hw, hs⟩ : (acted s [] a).euWaiting = some r ∧ (acted s [] a).status = s.biu.status := by
    simp [acted, ht, State.busActions, Biu.tickT2, hb.finalTransfer, hf, hp.nextHalf, hn, hb.status]
  obtain ⟨f, e⟩ := piped_td_eu (e0.trans h0) (eta.trans hta) hw s.biu.tState s.sregs.cs
  rw [busTick_biu, e, ht]
  exact ⟨⟨rfl, .inl rfl, e0.trans h0⟩, rfl, hs⟩

/-- While the first half lasts the address cycle of the second goes on. -/
theorem owned_tick (h : Owned r s.biu) (ht : s.biu.tState ≠ .t4 ∧ s.biu.tState ≠ .ti) (a : FabricAnswer) :
    Owned r (s.busTick [] a).1.biu ∧ (s.busTick [] a).1.biu.ta ≠ .tr := by
  obtain ⟨ho, hta, h0⟩ := h
  obtain ⟨eta, e0, eo⟩ := acted_pipe s a
  obtain hta | hta := hta
  · obtain ⟨f, e⟩ := piped_tr (e0.trans h0) (eta.trans hta) s.biu.tState s.sregs.cs
    rw [busTick_biu, e]
    exact ⟨⟨by simp [eo, ho], by simp, by simp [e0, h0]⟩, by simp⟩
  · obtain ⟨f, e⟩ := piped_t0 (e0.trans h0) (eta.symm ▸ hta) ht.symm s.sregs.cs
    rw [busTick_biu, e]
    exact ⟨⟨by simp [eo, ho], by simp, by simp [e0, h0]⟩, by simp⟩

/-- After the first half's T4 comes the second's T1. -/
theorem committed_t4 (h : Owned r s.biu) (hr : s.biu.ta ≠ .tr) (ht : s.biu.tState = .t4) (a : FabricAnswer) :
    (s.busTick [] a).1.biu.committed = some r ∧ (s.busTick [] a).1.biu.tState = .t1 := by
  obtain ⟨ho, hta, h0⟩ := h
  obtain ⟨eta, e0, eo⟩ := acted_pipe s a
  obtain ⟨f, p, e⟩ := piped_commit (e0.trans h0) (eta.symm ▸ hta.resolve_left hr) (.inr ht) s.sregs.cs
  rw [busTick_biu, e, ht]
  simp [Biu.nextT, Biu.nextIdle, eo, ho]

/-- A committed transaction is latched in T1. -/
theorem latched_t1 (ht : s.biu.tState = .t1) (hc : s.biu.committed = some r) (hk : r.kind ≠ .halt) (a : FabricAnswer) :
    (s.busTick [] a).1.biu.status = r.kind ∧ (s.busTick [] a).1.biu.addr = r.addr ∧
      (s.busTick [] a).1.biu.transferN = r.transferN := by
  have hb := sameBus_euStep s.biu .t1 []
  rw [busTick_biu]
  simp [piped, acted, ht, State.busActions, Biu.tickT1, hb.committed, hc, Biu.nextT, hk]

/-- The first tick of a run, and the run after it. -/
theorem busRun_cons (s : State) (acts : List EuAction) (a : FabricAnswer) (l : List (List EuAction × FabricAnswer)) :
    s.busRun ((acts, a) :: l) =
      (((s.busTick acts a).1.busRun l).1, (s.busTick acts a).2 :: ((s.busTick acts a).1.busRun l).2) := rfl

/-- The wait states of the first half, its T4, and the second half's T1, where `n` wait states are left. -/
theorem busRun_waits (hk : r.kind ≠ .halt) (a1 a2 a3 : FabricAnswer) (n : Nat) (h : Owned r s.biu) (hr : s.biu.ta ≠ .tr)
    (hw : s.biu.waitRemaining = n) (ht : s.biu.tState = if 0 < n then .tw else .t4) :
    let run := s.busRun (List.replicate n ([], a1) ++ [([], a2), ([], a3)])
    run.2.map (fun x => x.tState) = List.replicate n TState.tw ++ [TState.t4, TState.t1] ∧
      run.1.biu.status = r.kind ∧ run.1.biu.addr = r.addr ∧ run.1.biu.transferN = r.transferN := by
  induction n generalizing s with
  | zero =>
    have ht : s.biu.tState = .t4 := ht
    obtain ⟨hc, ht1⟩ := committed_t4 h hr ht a2
    simp only [List.replicate_zero, List.nil_append, busRun_cons, State.busRun, List.map_cons, List.map_nil,
      (busTick_record ..).1, ht, ht1, true_and]
    exact latched_t1 ht1 hc hk a3
  | succ n ih =>
    have ht : s.biu.tState = .tw := by simpa using ht
    obtain ⟨h', hr'⟩ := owned_tick h (by simp [ht]) a1
    have hw' := waitRemaining_tw ht [] a1
    rw [hw, Nat.add_sub_cancel] at hw'
    have ht' := tState_of_waitRemaining (.inr ht) [] a1
    rw [hw'] at ht'
    obtain ⟨hl, hs⟩ := ih h' hr' hw' ht'
    simp only [List.replicate_succ, List.cons_append, busRun_cons, List.map_cons, (busTick_record s ..).1, ht, hl,
      true_and]
    exact hs

/-- The clause of O60 on the two halves of a word. -/
theorem halves_contiguous (x : Byte) (n : Nat) (a0 a1 a2 a3 : FabricAnswer) (hi : s.biu.Inv) (ht : s.biu.tState = .t2)
    (hf : s.biu.finalTransfer = false) (hn : s.biu.nextHalf = some r) (hta : s.biu.ta = .td) :
    let tw := if s.biu.status.isMemory then n else 0
    let run := s.busRun ([([], a0), ([], ⟨x, n⟩)] ++ List.replicate tw ([], a1) ++ [([], a2), ([], a3)])
    run.2.map (fun x => x.tState) = [TState.t2, TState.t3] ++ List.replicate tw TState.tw ++ [TState.t4, TState.t1] ∧
      run.1.biu.status = r.kind ∧ run.1.biu.addr = r.addr ∧ run.1.biu.transferN = r.transferN := by
  obtain ⟨-, -, ⟨-, h0, -⟩, -, -, ⟨-, hq, -⟩, -⟩ := hi
  have hk : r.kind ≠ .halt := fun hk => by simpa [hk, BusStatus.isEu] using hq r hn
  have h0 : s.biu.abortLeft = 0 := by
    by_contra hne
    simp [h0 hne] at hta
  obtain ⟨h1, ht1, hs⟩ := owned_t2 ht hf hn hta h0 a0
  obtain ⟨h2, hr2⟩ := owned_tick h1 (by simp [ht1]) ⟨x, n⟩
  have hw2 := waitRemaining_t3 ht1 [] ⟨x, n⟩
  have ht2 := tState_of_waitRemaining (.inl ht1) [] ⟨x, n⟩
  rw [hs] at hw2
  rw [hw2] at ht2
  obtain ⟨hl, hrun⟩ := busRun_waits hk a1 a2 a3 _ h2 hr2 hw2 ht2
  simp only [List.cons_append, List.nil_append, busRun_cons, List.map_cons, (busTick_record s ..).1,
    (busTick_record (s.busTick [] a0).1 ..).1, ht, ht1, hl, true_and]
  exact hrun

end Sys2Proof.Proofs
end

section
/-! The timing of a request of the EU, the fetch decision, and from all clauses O60 (20_memory.md R233 to R242). -/

namespace Sys2Proof.Proofs

open Sys2Proof Sys2Proof.Machine Sys2Proof.Laws

variable {b c : Biu} {t : TState} {s : State} {r : Request}

/-! ### A request of the EU (R238 to R240) -/

/-- The tick of a request: the EU's part of it is the request alone. -/
theorem euStep_transfer (hf : s.biu.euFree = true) (k : EuKind) (w : Width) (x y : LinAddr) (v : Word) :
    (s.biu.euStep s.biu.tState [.transfer k w x y v]).biu =
      s.biu.request s.biu.tState (Request.first k w x v) (Request.second k w y v) := by
  simp only [Biu.euFree, Bool.and_eq_true, Option.isNone_iff_eq_none, Bool.not_eq_true'] at hf
  exact (euStep_single hf.1 hf.2 s.biu.tState _).1

/-- With the pipeline free a request starts its address cycle in the next tick. -/
theorem request_starts (hp : s.biu.PipelineOk) (hf : s.biu.euFree = true) (hta : s.biu.ta = .td)
    (hl : s.biu.finalTransfer = true) (k : EuKind) (w : Width) (x y : LinAddr) (v : Word) (a : FabricAnswer) :
    (s.busTick [.transfer k w x y v] a).1.biu.ta = .tr ∧
      (s.busTick [.transfer k w x y v] a).1.biu.owner = some (Request.first k w x v) := by
  obtain ⟨-, hp0, -⟩ := hp
  have h0 : s.biu.abortLeft = 0 := by
    by_contra hne
    simp [hp0 hne] at hta
  have hc : s.biu.codeAddressing = false := by simp [Biu.codeAddressing, hta]
  have he : acted s [.transfer k w x y v] a =
      (State.busActions { s with biu := s.biu.request s.biu.tState (Request.first k w x v) (Request.second k w y v) }
        s.biu.tState a).biu := by
    rw [acted, euStep_transfer hf]
  have hw : (acted s [.transfer k w x y v] a).euWaiting = some (Request.first k w x v) := by
    rw [he]
    obtain ⟨-, q, -, e⟩ | ⟨-, -, -, d, n, e⟩ | ⟨-, q, hl', -⟩ | ⟨-, -, e⟩ | ⟨-, -, d, e⟩ := busActions_cases
      { s with biu := s.biu.request s.biu.tState (Request.first k w x v) (Request.second k w y v) } s.biu.tState a
    case inr.inr.inl => exact absurd (hl.symm.trans hl') nofun
    all_goals rw [e]; rfl
  obtain ⟨f, e⟩ := piped_td_eu (b := acted s [.transfer k w x y v] a) (by simp [he, Biu.request, hc, h0])
    (by simp [he, Biu.request, hta]) hw s.biu.tState s.sregs.cs
  rw [busTick_biu, e]
  simp

/-- A transaction is in T3, Tw or T4, or none is on the bus, and none follows. -/
structure Late (b : Biu) : Prop where
  tState : b.tState = .t3 ∨ b.tState = .tw ∨ b.tState = .t4 ∨ b.tState = .ti
  committed : b.committed = none
  haltPending : b.haltPending = none

/-- From T3 on the bus actions leave the pipeline and PC alone. -/
theorem acted_late (h : Late s.biu) {acts : List EuAction} {e : Biu} (he : (s.biu.euStep s.biu.tState acts).biu = e)
    (a : FabricAnswer) :
    (acted s acts a).ta = e.ta ∧ (acted s acts a).abortLeft = e.abortLeft ∧ (acted s acts a).owner = e.owner ∧
      (acted s acts a).euWaiting = e.euWaiting ∧ (acted s acts a).pc = e.pc ∧ (acted s acts a).committed = none ∧
      (acted s acts a).haltPending = e.haltPending := by
  have hc := (sameBus_euStep s.biu s.biu.tState acts).committed
  rw [h.committed, he] at hc
  have ht : s.biu.tState ≠ .t1 ∧ s.biu.tState ≠ .t2 := by
    obtain ht | ht | ht | ht := h.tState <;> simp [ht]
  simp only [acted, he]
  obtain ⟨h1, -⟩ | ⟨-, -, -, d, n, e'⟩ | ⟨h2, -⟩ | ⟨-, -, e'⟩ | ⟨-, -, d, e'⟩ :=
    busActions_cases { s with biu := e } s.biu.tState a
  · exact absurd h1 ht.1
  · simp [e', hc]
  · exact absurd h2 ht.2
  · simp [e', hc]
  · simp [e', hc]

/-- With nothing committed and no halt pulse to come no transaction starts. -/
theorem late_nextT (ht : t = .t3 ∨ t = .tw ∨ t = .t4 ∨ t = .ti) (hc : b.committed = none) (hh : b.haltPending = none) :
    Late (b.nextT t) := by
  have hidle : b.nextIdle = { b with status := .passive, tState := .ti } := by
    obtain ⟨hs, -⟩ | ⟨r, -, hr, -⟩ | ⟨-, e⟩ := nextIdle_cases b
    · simp [hc] at hs
    · simp [hh] at hr
    · exact e
  obtain rfl | rfl | rfl | rfl := ht
  · exact ⟨by simp only [Biu.nextT]; split <;> simp, hc, hh⟩
  · exact ⟨by simp only [Biu.nextT]; split <;> simp, hc, hh⟩
  · simp only [Biu.nextT, hidle]
    exact ⟨by simp, hc, hh⟩
  · simp only [Biu.nextT, hidle]
    exact ⟨by simp, hc, hh⟩

/-- A tick of the abort penalty, also the one of the request itself. -/
theorem penalty_tick (h : Late s.biu) {acts : List EuAction} {e : Biu} (he : (s.biu.euStep s.biu.tState acts).biu = e)
    (hh : e.haltPending = none) (h0 : e.abortLeft ≠ 0) (a : FabricAnswer) :
    Late (s.busTick acts a).1.biu ∧ (s.busTick acts a).1.biu.ta = .ta ∧
      (s.busTick acts a).1.biu.abortLeft = e.abortLeft - 1 ∧ (s.busTick acts a).1.biu.euWaiting = e.euWaiting ∧
      (s.busTick acts a).1.biu.pc = e.pc := by
  obtain ⟨-, e0, -, ew, ep, ec, eh⟩ := acted_late h he a
  obtain ⟨f, ep'⟩ := piped_penalty (e0 ▸ h0) s.biu.tState s.sregs.cs
  rw [busTick_biu, ep']
  have hl := late_nextT (b := { acted s acts a with fetch := f, ta := .ta, abortLeft := (acted s acts a).abortLeft - 1 })
    h.tState ec (eh.trans hh)
  refine ⟨⟨hl.tState, hl.committed, hl.haltPending⟩, ?_⟩
  simp [e0, ew, ep]

/-- After the penalty the request owns the address cycle. -/
theorem grant_tick (h : Late s.biu) (hta : s.biu.ta = .ta) (h0 : s.biu.abortLeft = 0) (a : FabricAnswer) :
    Late (s.busTick [] a).1.biu ∧ (s.busTick [] a).1.biu.ta = .tr ∧ (s.busTick [] a).1.biu.abortLeft = 0 ∧
      (s.busTick [] a).1.biu.owner = s.biu.euWaiting ∧ (s.busTick [] a).1.biu.pc = s.biu.pc := by
  have hp := samePipe_idle s.biu s.biu.tState
  obtain ⟨eta, e0, -, ew, ep, ec, eh⟩ := acted_late h rfl a
  obtain ⟨f, e⟩ := piped_ta ((e0.trans hp.abortLeft).trans h0) ((eta.trans hp.ta).trans hta) s.biu.tState s.sregs.cs
  rw [busTick_biu, e]
  have hl := late_nextT (b := { acted s [] a with
    fetch := f, ta := .tr, owner := (acted s [] a).euWaiting, euWaiting := none }) h.tState ec
    ((eh.trans hp.haltPending).trans h.haltPending)
  refine ⟨⟨hl.tState, hl.committed, hl.haltPending⟩, ?_⟩
  simp [e0, hp.abortLeft, h0, ew, hp.euWaiting, ep, hp.pc]

/-- The address cycle goes on from Tr to Ts. -/
theorem tr_tick (h : Late s.biu) (hta : s.biu.ta = .tr) (h0 : s.biu.abortLeft = 0) (a : FabricAnswer) :
    (s.busTick [] a).1.biu.owner = s.biu.owner ∧ (s.busTick [] a).1.biu.pc = s.biu.pc := by
  have hp := samePipe_idle s.biu s.biu.tState
  obtain ⟨eta, e0, eo, -, ep, -⟩ := acted_late h rfl a
  obtain ⟨f, e⟩ := piped_tr ((e0.trans hp.abortLeft).trans h0) ((eta.trans hp.ta).trans hta) s.biu.tState s.sregs.cs
  rw [busTick_biu, e]
  simp [eo, hp.owner, ep, hp.pc]

/-- A late request aborts the address cycle of a code fetch, with two ticks of penalty (R240). -/
theorem request_aborts (hi : s.biu.Inv) (hf : s.biu.euFree = true) (hc : Request.isCode s.biu.owner = true)
    (ht : s.biu.tState ∈ [TState.t3, .tw, .t4, .ti]) (k : EuKind) (w : Width) (x y : LinAddr) (v : Word)
    (a0 a1 a2 a3 : FabricAnswer) :
    let run := s.busRun [([.transfer k w x y v], a0), ([], a1), ([], a2), ([], a3)]
    run.2.map (fun r => r.ta) = [s.biu.ta, TaState.ta, .ta, .tr] ∧ run.1.biu.pc = s.biu.pc ∧
      run.1.biu.owner = some (Request.first k w x v) := by
  have hca : s.biu.codeAddressing = true := (euActed_of_inv hi).codeAddressing.trans hc
  have he := euStep_transfer hf k w x y v
  have ht' : s.biu.tState = .t3 ∨ s.biu.tState = .tw ∨ s.biu.tState = .t4 ∨ s.biu.tState = .ti := by simpa using ht
  have hlate : s.biu.classify s.biu.tState = .euLate := by
    obtain ht | ht | ht | ht := ht' <;> simp [ht, Biu.classify, hca]
  obtain ⟨-, hcommit, -⟩ := hi
  obtain ⟨-, hhalt⟩ := not_euBusy (by simpa using (Bool.and_eq_true_iff.mp hf).2)
  have h : Late s.biu := by
    refine ⟨ht', ?_, hhalt⟩
    have h1 : s.biu.tState ≠ .t1 := by obtain ht | ht | ht | ht := ht' <;> simp [ht]
    simpa [h1] using hcommit.mp.mt h1
  obtain ⟨l1, ta1, p1, w1, pc1⟩ := penalty_tick h he h.haltPending (by simp [Biu.request, hlate, hca, Config.abortPenalty]) a0
  have p1 : (s.busTick [.transfer k w x y v] a0).1.biu.abortLeft = 1 := by
    rw [p1]
    simp [Biu.request, hlate, hca, Config.abortPenalty]
  generalize hs1 : (s.busTick [.transfer k w x y v] a0).1 = s1 at l1 ta1 p1 w1 pc1
  have i1 := samePipe_idle s1.biu s1.biu.tState
  obtain ⟨l2, ta2, p2, w2, pc2⟩ := penalty_tick l1 rfl (i1.haltPending.trans l1.haltPending)
    (by simp [i1.abortLeft, p1]) a1
  obtain ⟨l3, ta3, p3, o3, pc3⟩ := grant_tick l2 ta2 (by rw [p2, i1.abortLeft, p1]) a2
  obtain ⟨o4, pc4⟩ := tr_tick l3 ta3 p3 a3
  simp only [State.busRun, hs1, List.map_cons, List.map_nil, (busTick_record ..).2.1, ta1, ta2, ta3, true_and]
  refine ⟨?_, ?_⟩
  · rw [pc4, pc3, pc2, i1.pc, pc1]
    rfl
  · rw [o4, o3, w2, i1.euWaiting, w1]
    rfl

/-! ### The fetch decision (R233 to R236) -/

/-- The bus actions end PausedFull with a data transaction, and touch the fetch state in no other way (R235; log 20). -/
theorem fetch_busActions (s : State) (t : TState) (a : FabricAnswer) :
    (s.busActions t a).biu.fetch =
      if t = .t4 ∧ s.biu.status ≠ .codeFetch ∧ s.biu.fetch = .pausedFull then .normal else s.biu.fetch := by
  obtain ⟨ht, r, -, e⟩ | ⟨-, -, ht, d, n, e⟩ | ⟨ht, r, -, -, e⟩ | ⟨-, hs, e⟩ | ⟨ht, hs, d, e⟩ := busActions_cases s t a <;>
    rw [e]
  · simp [ht]
  · simp [ht]
  · simp [ht]
  · simp [hs]
  · simp [ht, hs]

/-- Where the fetch state is not Normal after the timer nothing is decided (R236). -/
theorem decided_nothing (h : b.fetch.tick ≠ .normal) (t : TState) : decided b t = .nothing := by
  have hn : ¬ Free { b with fetch := b.fetch.tick } := fun hf => h hf.fetch
  unfold decided
  split
  · exact decision_of_not_free hn t
  · rfl

theorem fetch_busTick (s : State) (acts : List EuAction) (a : FabricAnswer) :
    (s.busTick acts a).1.biu.fetch =
      (decided (acted s acts a) s.biu.tState).fetch (acted s acts a).fetch.tick := by
  simp [busTick_biu, piped]

/-- The EU asks for nothing, the address pipeline is free, and the transfer on the bus is in its last transaction. -/
structure AtRest (b : Biu) : Prop where
  queueWait : b.queueWait = none
  euWaiting : b.euWaiting = none
  pending : b.pending = .none
  finalTransfer : b.finalTransfer = true
  ta : b.ta = .td
  abortLeft : b.abortLeft = 0
  owner : b.owner = none

theorem atRest_of_inv (hi : b.Inv) (hq : b.queueWait = none) (hta : b.ta = .td) (hw : b.euWaiting = none)
    (hp : b.pending = .none) (hf : b.finalTransfer = true) : AtRest b := by
  obtain ⟨-, -, ⟨ho, h0, -⟩, -⟩ := hi
  refine ⟨hq, hw, hp, hf, hta, ?_, by simpa [hta] using ho⟩
  by_contra hne
  simp [h0 hne] at hta

/-- With the EU at rest a tick's bus actions are those of the T-state alone. -/
theorem acted_idle (h : s.biu.queueWait = none) (a : FabricAnswer) :
    acted s [] a = (s.busActions s.biu.tState a).biu := by
  simp [acted, Biu.euStep, h, Biu.actAll]

/-- The bus actions keep the rest, but that T1 latches its own transfer. -/
theorem atRest_acted (h : AtRest s.biu) (a : FabricAnswer) :
    (acted s [] a).euWaiting = none ∧ (acted s [] a).ta = .td ∧ (acted s [] a).abortLeft = 0 ∧
      (acted s [] a).owner = none := by
  obtain ⟨hq, hw, -, hf, hta, h0, ho⟩ := h
  rw [acted_idle hq]
  obtain ⟨-, r, -, e⟩ | ⟨-, -, -, d, n, e⟩ | ⟨-, r, hf', -⟩ | ⟨-, -, e⟩ | ⟨-, -, d, e⟩ :=
    busActions_cases s s.biu.tState a
  case inr.inr.inl => exact absurd (hf.symm.trans hf') nofun
  all_goals rw [e]; exact ⟨hw, hta, h0, ho⟩

/-- A code fetch enters the pipeline when the decision starts one, and else nothing does. -/
theorem owner_busTick (h : AtRest s.biu) (a : FabricAnswer) :
    (s.busTick [] a).1.biu.owner =
      (if decided (acted s [] a) s.biu.tState = .start then some (Request.code s.sregs.cs (acted s [] a).pc) else none) ∧
    (decided (acted s [] a) s.biu.tState = .start → (s.busTick [] a).1.biu.ta = .tr) := by
  obtain ⟨hw, hta, h0, ho⟩ := atRest_acted h a
  rw [busTick_biu, piped_td h0 hta hw]
  split <;> simp [*]

/-- Where nothing is decided no code fetch starts, and only the timer and the end of PausedFull change the fetch state. -/
theorem tick_undecided (h : AtRest s.biu) (a : FabricAnswer)
    (hd : decided (acted s [] a) s.biu.tState = .nothing) :
    (s.busTick [] a).1.biu.owner = none ∧ (s.busTick [] a).1.biu.fetch = (acted s [] a).fetch.tick := by
  rw [(owner_busTick h a).1, fetch_busTick, hd]
  exact ⟨rfl, rfl⟩

/-- The decision of a tick in which one is due, but for T1 and for a T4 that delivers a code byte. -/
theorem decided_due (h : AtRest s.biu) (a : FabricAnswer) (h1 : s.biu.tState ≠ .t1)
    (h4 : s.biu.status = .codeFetch → s.biu.tState ≠ .t4)
    (hdue : s.biu.fetch = .delayed 0 ∨ s.biu.fetch = .normal ∧ (s.biu.tState = .ti ∨ s.biu.tState = .t2)) :
    (acted s [] a).pc = s.biu.pc ∧ (acted s [] a).fetch.tick = .normal ∧
      decided (acted s [] a) s.biu.tState =
        if countIf (s.biu.status == .codeFetch) = 1 ∧ s.biu.queue.length = 3 then .delay
        else if 4 ≤ s.biu.queue.length + countIf (s.biu.status == .codeFetch) then .pause else .start := by
  have hft : (acted s [] a).fetch = s.biu.fetch := by
    rw [acted_idle h.queueWait, fetch_busActions, if_neg]
    obtain hf | ⟨hf, -⟩ := hdue <;> simp [hf]
  have htick : (acted s [] a).fetch.tick = .normal := by
    rw [hft]
    obtain hf | ⟨hf, -⟩ := hdue <;> simp [hf, FetchState.tick]
  obtain ⟨hst, hpc, hql, hpe, hfi⟩ : (acted s [] a).status = s.biu.status ∧ (acted s [] a).pc = s.biu.pc ∧
      (acted s [] a).queue = s.biu.queue ∧ (acted s [] a).pending = .none ∧ (acted s [] a).finalTransfer = true := by
    rw [acted_idle h.queueWait]
    obtain ⟨ht, -⟩ | ⟨-, -, -, d, n, e⟩ | ⟨-, r, hf', -⟩ | ⟨ht, hs, -⟩ | ⟨-, -, d, e⟩ :=
      busActions_cases s s.biu.tState a
    · exact absurd ht h1
    · simp [e, h.pending, h.finalTransfer]
    · exact absurd (h.finalTransfer.symm.trans hf') nofun
    · exact absurd ht (h4 hs)
    · simp [e, h.pending, h.finalTransfer]
  obtain ⟨hw, hta, -, -⟩ := atRest_acted h a
  refine ⟨hpc, htick, ?_⟩
  have hfree : Free { acted s [] a with fetch := (acted s [] a).fetch.tick } := ⟨htick, hw, hpe, .inr hfi, hta⟩
  have hn : (s.biu.status == .codeFetch && s.biu.tState != .t4) = (s.biu.status == .codeFetch) := by
    cases hs : s.biu.status == .codeFetch
    · rfl
    · simpa using h4 (by simpa using hs)
  rw [decided, if_pos, decision_of_free hfree _ (countIf (s.biu.status == .codeFetch)) (by simp [hst, hn])]
  · simp [hql]
  · rw [hft]
    obtain hf | ⟨-, ht | ht⟩ := hdue <;> simp [*]

/-- A decision to start puts the code fetch at `lin(CS, PC)` in the pipeline (R233, R248). -/
theorem tick_start (h : AtRest s.biu) (a : FabricAnswer) (hpc : (acted s [] a).pc = s.biu.pc)
    (hf : (acted s [] a).fetch.tick = .normal) (hd : decided (acted s [] a) s.biu.tState = .start) :
    (s.busTick [] a).1.biu.owner = some (Request.code s.sregs.cs s.biu.pc) ∧ (s.busTick [] a).1.biu.ta = .tr ∧
      (s.busTick [] a).1.biu.fetch = .normal := by
  obtain ⟨ho, hta⟩ := owner_busTick h a
  refine ⟨by simp [ho, hd, hpc], hta hd, ?_⟩
  simpa [fetch_busTick, hd, Decision.fetch] using hf

/-- The decision with no code byte on its way (R233, R235). -/
theorem tick_decides (h : AtRest s.biu) (a : FabricAnswer) (hf : s.biu.fetch = .normal)
    (ht : s.biu.tState = .ti ∨ s.biu.tState = .t2) (hs : s.biu.status ≠ .codeFetch) :
    (s.biu.queue.length < 4 → (s.busTick [] a).1.biu.owner = some (Request.code s.sregs.cs s.biu.pc) ∧
        (s.busTick [] a).1.biu.ta = .tr ∧ (s.busTick [] a).1.biu.fetch = .normal) ∧
      (s.biu.queue.length = 4 → (s.busTick [] a).1.biu.owner = none ∧ (s.busTick [] a).1.biu.fetch = .pausedFull) := by
  have h1 : s.biu.tState ≠ .t1 := by obtain ht | ht := ht <;> simp [ht]
  obtain ⟨hpc, htick, hd⟩ := decided_due h a h1 (fun hs' => absurd hs' hs) (.inr ⟨hf, ht⟩)
  have hn : countIf (s.biu.status == .codeFetch) = 0 := by simp [hs, countIf]
  rw [hn] at hd
  refine ⟨fun hl => tick_start h a hpc htick ?_, fun hl => ?_⟩
  · rw [hd, if_neg (by omega), if_neg (by omega)]
  · rw [(owner_busTick h a).1, fetch_busTick, hd, hl]
    exact ⟨rfl, rfl⟩

/-- The decision in T2 of a code fetch, whose byte is on its way (R233, R234). -/
theorem tick_decides_code (h : AtRest s.biu) (a : FabricAnswer) (hf : s.biu.fetch = .normal)
    (ht : s.biu.tState = .t2) (hs : s.biu.status = .codeFetch) :
    (s.biu.queue.length < 3 → (s.busTick [] a).1.biu.owner = some (Request.code s.sregs.cs s.biu.pc) ∧
        (s.busTick [] a).1.biu.ta = .tr ∧ (s.busTick [] a).1.biu.fetch = .normal) ∧
      (s.biu.queue.length = 3 → (s.busTick [] a).1.biu.owner = none ∧ (s.busTick [] a).1.biu.fetch = .delayed 3) := by
  obtain ⟨hpc, htick, hd⟩ := decided_due h a (by simp [ht]) (by simp [ht]) (.inr ⟨hf, .inr ht⟩)
  have hn : countIf (s.biu.status == .codeFetch) = 1 := by simp [hs, countIf]
  rw [hn] at hd
  refine ⟨fun hl => tick_start h a hpc htick ?_, fun hl => ?_⟩
  · rw [hd, if_neg (by omega), if_neg (by omega)]
  · rw [(owner_busTick h a).1, fetch_busTick, hd, hl]
    exact ⟨rfl, rfl⟩

/-- The end of Delayed with no code byte on its way (R234). -/
theorem tick_delay_over (h : AtRest s.biu) (a : FabricAnswer) (hf : s.biu.fetch = .delayed 0)
    (ht : s.biu.tState ≠ .t1) (hs : s.biu.status ≠ .codeFetch) (hl : s.biu.queue.length < 4) :
    (s.busTick [] a).1.biu.owner = some (Request.code s.sregs.cs s.biu.pc) ∧
      (s.busTick [] a).1.biu.fetch = .normal := by
  obtain ⟨hpc, htick, hd⟩ := decided_due h a ht (fun hs' => absurd hs' hs) (.inl hf)
  have hn : countIf (s.biu.status == .codeFetch) = 0 := by simp [hs, countIf]
  obtain ⟨ho, -, hf'⟩ := tick_start h a hpc htick (by rw [hd, hn, if_neg (by omega), if_neg (by omega)])
  exact ⟨ho, hf'⟩

/-- What the bus actions leave of the fetch state, with the EU at rest. -/
theorem fetch_acted (h : AtRest s.biu) (a : FabricAnswer) :
    (acted s [] a).fetch =
      if s.biu.tState = .t4 ∧ s.biu.status ≠ .codeFetch ∧ s.biu.fetch = .pausedFull then .normal else s.biu.fetch := by
  rw [acted_idle h.queueWait, fetch_busActions]

/-- A fetch state that the timer does not bring to Normal holds every decision up (R234, R236). -/
theorem tick_held (h : AtRest s.biu) (a : FabricAnswer) (hp : s.biu.fetch ≠ .pausedFull)
    (hn : s.biu.fetch.tick ≠ .normal) :
    (s.busTick [] a).1.biu.owner = none ∧ (s.busTick [] a).1.biu.fetch = s.biu.fetch.tick := by
  have hft : (acted s [] a).fetch = s.biu.fetch := by simp [fetch_acted h, hp]
  rw [← hft] at hn ⊢
  exact tick_undecided h a (decided_nothing hn _)

/-- PausedFull ends with a data transaction (R235; log 20). -/
theorem tick_pausedFull (h : AtRest s.biu) (a : FabricAnswer) (hp : s.biu.fetch = .pausedFull) :
    (s.busTick [] a).1.biu.owner = none ∧
      (s.busTick [] a).1.biu.fetch =
        if s.biu.tState = .t4 ∧ s.biu.status ≠ .codeFetch then .normal else .pausedFull := by
  have hft := fetch_acted h a
  simp only [hp, and_true] at hft
  by_cases h4 : s.biu.tState = .t4 ∧ s.biu.status ≠ .codeFetch
  · rw [if_pos h4] at hft ⊢
    obtain ⟨ho, hf⟩ := tick_undecided h a (by simp [decided, h4.1, hft])
    exact ⟨ho, by rw [hf, hft]; rfl⟩
  · rw [if_neg h4] at hft ⊢
    obtain ⟨ho, hf⟩ := tick_undecided h a (decided_nothing (by simp [hft, FetchState.tick]) _)
    exact ⟨ho, by rw [hf, hft]; rfl⟩

/-! ### The EU's changes of the fetch state (R230, R236) -/

/-- With the queue empty nothing is delayed, and nothing paused. -/
theorem fetch_decided_nil (hq : b.queue = []) (hf : b.fetch.tick = .normal) (t : TState) :
    (decided b t).fetch b.fetch.tick = .normal := by
  have hd : decided b t = .start ∨ decided b t = .nothing := by
    unfold decided
    split
    · by_cases hfree : Free { b with fetch := b.fetch.tick }
      · rw [decision_of_free hfree t _ rfl, if_neg (by simp [hq]), if_neg]
        · exact .inl rfl
        · simp only [hq, List.length_nil, countIf]
          split <;> omega
      · exact .inr (decision_of_not_free hfree t)
    · exact .inr rfl
  obtain hd | hd := hd <;> rw [hd] <;> exact hf

/-- A flush puts PC at the target, also in the T1 of a code fetch, whose byte it discards (R230; log 20). -/
theorem tick_flush (hq : s.biu.queueWait = none) (hb : s.biu.euBusy = false) (ip : Word) (a : FabricAnswer) :
    (s.busTick [.flush ip] a).1.biu.pc = ip ∧ (s.busTick [.flush ip] a).1.biu.fetch = .normal ∧
      (acted s [.flush ip] a).queue = [] := by
  have he : acted s [.flush ip] a = (State.busActions { s with biu := s.biu.flush ip } s.biu.tState a).biu := by
    rw [acted, (euStep_single hq hb ..).1]
    rfl
  have hd : (s.biu.flush ip).discarded = (s.biu.discarded || s.biu.codeInFlight || Request.isCode s.biu.committed) := rfl
  have hft : (acted s [.flush ip] a).fetch = .normal := by
    rw [he, fetch_busActions]
    exact ite_self _
  obtain ⟨hpc, hql⟩ : (acted s [.flush ip] a).pc = ip ∧ (acted s [.flush ip] a).queue = [] := by
    rw [he]
    obtain ⟨-, r, hm, e⟩ | ⟨-, -, -, d, n, e⟩ | ⟨-, r, -, -, e⟩ | ⟨ht, hs, e⟩ | ⟨-, -, d, e⟩ :=
      busActions_cases { s with biu := s.biu.flush ip } s.biu.tState a <;> rw [e]
    · have hm' : s.biu.committed = some r := hm
      refine ⟨if_neg ?_, rfl⟩
      rintro ⟨hk, hn⟩
      simp [hd, hm', Request.isCode, hk] at hn
    · exact ⟨rfl, rfl⟩
    · exact ⟨rfl, rfl⟩
    · have hs' : s.biu.status = .codeFetch := hs
      exact ⟨rfl, if_pos (by simp [hd, Biu.codeInFlight, hs', ht])⟩
    · exact ⟨rfl, rfl⟩
  refine ⟨by simp [busTick_biu, piped, hpc], ?_, hql⟩
  rw [fetch_busTick]
  exact fetch_decided_nil hql (by rw [hft]; rfl) _

/-- A change of the fetch state that the timer does not end holds (R236). -/
theorem tick_setFetch (hq : s.biu.queueWait = none) (hb : s.biu.euBusy = false) (a : FabricAnswer) {x : EuAction}
    {f : FetchState} (hx : (s.biu.act s.biu.tState x).biu.fetch = f) (hf : f = .suspended ∨ f = .halted) :
    (s.busTick [x] a).1.biu.fetch = f := by
  have he : (s.biu.euStep s.biu.tState [x]).biu.fetch = f := by rw [(euStep_single hq hb _ x).1, hx]
  have ha : (acted s [x] a).fetch = f := by
    rw [acted, fetch_busActions]
    simp only [he]
    obtain rfl | rfl := hf <;> simp
  have ht : f.tick = f ∧ f ≠ .normal := by obtain rfl | rfl := hf <;> exact ⟨rfl, nofun⟩
  rw [fetch_busTick, decided_nothing (by rw [ha, ht.1]; exact ht.2), ha, ht.1]
  rfl

/-- A byte taken from the queue ends PausedFull, and Delayed at the policy length (R234, R235). -/
theorem fetch_readQueue (hq : b.queue ≠ []) (q : QueueRead) :
    (b.readQueue q).biu.fetch = b.fetch.afterPop (b.queue.length - 1) := by
  obtain ⟨h, -⟩ | ⟨v, rest, h, -, -, -, e⟩ := readQueue_cases b q
  · exact absurd h hq
  · simp [e, h]

/-- Settles O60: each clause is a lemma about the ticks that it speaks of. -/
theorem busTimings : Obligations.BusTimings := by
  refine ⟨fun s r x n a0 a1 a2 a3 hi ht hf hn hta _ => halves_contiguous x n a0 a1 a2 a3 hi ht hf hn hta,
    fun s k w x y v a0 a1 a2 a3 hi hf => ⟨fun hta hl => ?_, fun hc ht => request_aborts hi hf hc ht k w x y v a0 a1 a2 a3⟩,
    fun s acts d n _ => waitStates s acts d n, fun s a hi hq _ hta hw hp hl => ?_⟩
  · obtain ⟨-, -, hp, -⟩ := hi
    exact request_starts hp hf hta hl k w x y v a0
  · have h := atRest_of_inv hi hq hta hw hp hl
    refine ⟨fun hf ht => ?_, tick_decides_code h a, fun hf ht hs hlen => tick_delay_over h a hf ht hs hlen, fun n hf => ?_,
      tick_pausedFull h a, fun hf => ?_, fun hb => ⟨fun ip => ?_, fun hf => ?_, ?_⟩,
      fun hne q => ⟨fun hf => ?_, fun n hf => ?_⟩⟩
    · obtain ⟨-, -, -, -, hst, -⟩ := hi
      obtain ht | ⟨ht, hs⟩ := ht
      · have hs : s.biu.status = .passive := by simpa [Biu.StatusOk, ht] using hst
        exact tick_decides h a hf (.inl ht) (by simp [hs])
      · exact tick_decides h a hf (.inr ht) hs
    · simpa [hf, FetchState.tick] using tick_held h a (by simp [hf]) (by simp [hf, FetchState.tick])
    · obtain hf | hf := hf <;>
        simpa [hf, FetchState.tick] using tick_held h a (by simp [hf]) (by simp [hf, FetchState.tick])
    · obtain ⟨hpc, hft, -⟩ := tick_flush hq hb ip a
      exact ⟨hpc, hft⟩
    · exact tick_setFetch hq hb a (by simp [Biu.act, hf]) (.inl rfl)
    · exact tick_setFetch hq hb a rfl (.inr rfl)
    · rw [fetch_readQueue hne, hf]
      rfl
    · have hpos := List.length_pos_iff.mpr hne
      rw [fetch_readQueue hne, hf]
      exact if_congr (by simp only [Config.fetchPolicyLen]; omega) rfl rfl

end Sys2Proof.Proofs
end

section
/-! The record of a tick: command signals, LOCK, and the queue operation (20_memory.md R225, R226, R230, R231, R243, R245,
R252). -/

namespace Sys2Proof.Proofs

open Sys2Proof Sys2Proof.Machine Sys2Proof.Laws

variable {s : State}

/-- The 8288's outputs for a status in a T-state (R225, R226). -/
theorem busSignals_iff (st : BusStatus) (t : TState) :
    let x := busSignals st t
    let mid := t = .t2 ∨ t = .t3 ∨ t = .tw
    let late := t = .t3 ∨ t = .tw
    (x.ale = true ↔ t = .t1) ∧ (x.mrdc = true ↔ (st = .codeFetch ∨ st = .memRead) ∧ mid) ∧
      (x.iorc = true ↔ st = .ioRead ∧ mid) ∧ (x.amwc = true ↔ st = .memWrite ∧ mid) ∧
      (x.mwtc = true ↔ st = .memWrite ∧ late) ∧ (x.aiowc = true ↔ st = .ioWrite ∧ mid) ∧
      (x.iowc = true ↔ st = .ioWrite ∧ late) ∧ (x.inta = true ↔ st = .intAck ∧ mid) := by
  simp [busSignals, or_assoc]

/-- LOCK is driven by the EU's lock and by INTA (R243, R245). -/
theorem lock_busTick (s : State) (acts : List EuAction) (a : FabricAnswer) :
    ((s.busTick acts a).2.lock = true ↔ s.biu.lockHeld = true ∨ (s.busTick acts a).2.status = .intAck) ∧
      (s.busTick acts a).1.biu.lockSignal = (s.busTick acts a).2.lock := by
  have h : (s.busTick acts a).2.lock = (s.biu.lockHeld || (s.busTick acts a).2.status == .intAck) := rfl
  refine ⟨?_, rfl⟩
  rw [h]
  simp

/-- The queue after the bus actions is what the record shows. -/
theorem queueLen_busTick (s : State) (acts : List EuAction) (a : FabricAnswer) :
    (s.busTick acts a).2.queueLen = (acted s acts a).queue.length := by
  have h : (s.busTick acts a).2.queueLen = (piped (acted s acts a) s.biu.tState s.sregs.cs).queue.length := rfl
  rw [h]
  simp [piped]

/-- A free EU that reads the queue: the record shows the operation of that read. -/
theorem queueOp_read (hq : s.biu.queueWait = none) (hb : s.biu.euBusy = false) (a : FabricAnswer) {x : EuAction}
    {q : QueueRead} (hx : s.biu.act s.biu.tState x = s.biu.readQueue q) :
    (s.busTick [x] a).2.queueOp = (s.biu.readQueue q).op := by
  rw [queueOp_busTick, (euStep_single hq hb ..).2, hx, readQueue_spent, if_pos rfl]

/-- A byte read is First or Subsequent (R252; log 20). -/
theorem op_readQueue {b : Biu} {v : Byte} {rest : List Byte} (h : b.queue = v :: rest) (q : QueueRead) :
    (b.readQueue q).op = if q = .next ∨ (q = .afterPrefix ∧ isPrefixByte v = false) then .subsequent else .first := by
  obtain ⟨h0, -⟩ | ⟨v', rest', h', -, -, e, -⟩ := readQueue_cases b q
  · simp [h0] at h
  · obtain ⟨rfl, rfl⟩ : v' = v ∧ rest' = rest := by simpa [h'] using h
    exact e

/-- A read of an empty queue is Idle, and waits (R231). -/
theorem tick_popNext_nil (hq : s.biu.queueWait = none) (hb : s.biu.euBusy = false) (h : s.biu.queue = [])
    (a : FabricAnswer) :
    (s.busTick [.popNext] a).2.queueOp = .idle ∧ (s.busTick [.popNext] a).1.biu.queueWait = some .next := by
  have he : s.biu.readQueue .next =
      { biu := { s.biu with queueWait := some .next }, op := .idle, taken := [], spent := true } := by
    simp [Biu.readQueue, h]
  constructor
  · rw [queueOp_read hq hb a (q := .next) rfl, he]
  · simp [busTick_biu, piped, acted, (euStep_single hq hb ..).1, Biu.act, he]

/-- Settles O59: the signals are read off the status and the T-state, and the queue operation off the EU's one action. -/
theorem commandSignals : Obligations.CommandSignals := by
  refine ⟨fun s acts a => ?_, fun s a _ hq => ⟨?_, fun hb => ⟨fun ip => ⟨?_, ?_⟩, fun hp hne => ?_, fun v rest h => ?_,
    fun hne => ?_, fun hp => ?_, fun h => tick_popNext_nil hq hb h a⟩⟩⟩
  · obtain ⟨h1, h2, h3, h4, h5, h6, h7, h8⟩ := busSignals_iff (s.busTick acts a).2.status s.biu.tState
    obtain ⟨hl, hl'⟩ := lock_busTick s acts a
    exact ⟨rfl, h1, h2, h3, h4, h5, h6, h7, h8, hl, hl'⟩
  · rw [queueOp_busTick]
    simp [Biu.euStep, hq, Biu.actAll]
  · rw [queueOp_busTick, (euStep_single hq hb ..).2]
    rfl
  · rw [queueLen_busTick, (tick_flush hq hb ip a).2.2]
    rfl
  · obtain ⟨v, rest, h⟩ := List.exists_cons_of_ne_nil hne
    constructor
    · rw [queueOp_read hq hb a (q := .first) (by simp [Biu.act, hp]), op_readQueue h]
      rfl
    · rw [queueOp_read hq hb a (q := .fetchNext) (by simp [Biu.act, hp]), op_readQueue h]
      rfl
  · rw [queueOp_read hq hb a (q := .afterPrefix) rfl, op_readQueue h]
    cases isPrefixByte v <;> rfl
  · obtain ⟨v, rest, h⟩ := List.exists_cons_of_ne_nil hne
    rw [queueOp_read hq hb a (q := .next) rfl, op_readQueue h]
    rfl
  · obtain ⟨v, hv⟩ := Option.ne_none_iff_exists'.mp hp
    rw [queueOp_busTick, (euStep_single hq hb ..).2]
    simp [Biu.act, hv]

end Sys2Proof.Proofs
end

section
/-! Linear addresses, and word accesses of RAM, of devices and of unmapped addresses (20_memory.md R202 to R210). -/

namespace Sys2Proof.Proofs

open Sys2Proof Sys2Proof.Machine Sys2Proof.Laws

variable {s : State}

/-- Settles O7: `lin` adds in 20 bits, where neither a shifted segment nor an offset loses one. -/
theorem linearAddressWraps : Obligations.LinearAddressWraps := by
  refine ⟨fun seg off => ?_, by decide⟩
  have hs : seg.toNat < 65536 := seg.isLt
  have ho : off.toNat < 65536 := off.isLt
  simp only [lin, BitVec.toNat_add, BitVec.toNat_shiftLeft, BitVec.toNat_setWidth, Nat.shiftLeft_eq]
  omega

/-- A word read of RAM is two byte reads, and nothing else (R203 to R205). -/
theorem readW_ram_state {seg off : Word} (h : s.IsRam (lin seg off)) (h' : s.IsRam (lin seg (off + 1))) :
    (s.readW seg off).2 =
      (s.record .memRead (lin seg off) (s.mem.read (lin seg off)) false).record .memRead (lin seg (off + 1))
        (s.mem.read (lin seg (off + 1))) true := by
  have hk : (s.record .memRead (lin seg off) (s.mem.read (lin seg off)) false).IsRam (lin seg (off + 1)) := h'
  rw [State.readW, memRead_ram h]
  exact congrArg Prod.snd (memRead_ram hk true)

/-- Settles O8: reads and writes of RAM by the laws of memory, the others by the map's answer for the address. -/
theorem readsAndWrites : Obligations.ReadsAndWrites := by
  refine ⟨fun s seg off h h' => ⟨⟨readW_ram h h', ?_⟩, fun v => ⟨?_, fun hm => memAfter_writeW hm seg off v⟩⟩,
    fun s seg off => ⟨fun h => ⟨?_, fun v => ?_⟩, fun h => ⟨fun x xs hx => ⟨?_, ?_⟩, fun v => ?_⟩⟩⟩
  · rw [readW_ram_state h h']
    simp [State.record]
  · simp [State.writeW]
  · simp [State.readB, State.memRead, State.memAnswer, h, Config.unmappedRead]
  · simp [State.writeB, h]
  · simp [State.readB, State.memRead, State.memAnswer, h, State.answer, hx]
  · simp [State.readB, State.memRead, State.memAnswer, h, State.answer, hx, State.record]
  · simp [State.writeB, h]

end Sys2Proof.Proofs
end

section
/-! The decoder: the round trip, the refused encodings, the aliases, and what every entry of the opcode table gives
(30_encoding.md R300 to R316). -/

namespace Sys2Proof.Proofs

open Sys2Proof Sys2Proof.Machine Sys2Proof.Laws

/-! ### Round trips -/

/-- Settles O2: the round trips of the instructions, one lemma per constructor, together. -/
theorem decodeEncode : Obligations.DecodeEncode := decode_encode

/-- Settles O1, by running the decoder on each word. -/
theorem specWordsDecode : Obligations.SpecWordsDecode := ⟨rfl, rfl, rfl, rfl, rfl, rfl, rfl, rfl, rfl⟩

/-! ### Refused encodings (30_encoding.md R313, R316) -/

/-- The opcodes of which R313 refuses an encoding by its ModR/M byte. -/
def partlyRefused : List Byte := [0x8E, 0x8F, 0xC4, 0xC5, 0xC6, 0xC7, 0xD0, 0xD1, 0xD2, 0xD3, 0xFE, 0xFF]

theorem opForm_partlyRefused {op : Byte} (h : op ∈ partlyRefused) : ∃ k, opForm op = .modrm k := by
  simp only [partlyRefused, List.mem_cons, List.not_mem_nil, or_false] at h
  rcases h with rfl | rfl | rfl | rfl | rfl | rfl | rfl | rfl | rfl | rfl | rfl | rfl <;> exact ⟨_, rfl⟩

theorem mem_partlyRefused {op b : Byte} (h : refusedEncoding op (some b) = true) : op ∈ partlyRefused := by
  simp only [refusedEncoding, Bool.or_eq_true, Bool.and_eq_true, beq_iff_eq] at h
  simp only [partlyRefused, List.mem_cons, List.not_mem_nil, or_false]
  tauto

/-- `refusedEncoding` by the fields of the ModR/M byte, as R313 lists the encodings. -/
theorem refusedEncoding_modRMByte (op : Byte) (mod : BitVec 2) (reg rm : BitVec 3) :
    refusedEncoding op (some (modRMByte mod reg rm)) = true ↔
      (op = 0x8E ∧ (reg = 1 ∨ reg = 5)) ∨ ((op = 0x8F ∨ op = 0xC6 ∨ op = 0xC7) ∧ reg ≠ 0) ∨
        ((op = 0xD0 ∨ op = 0xD1 ∨ op = 0xD2 ∨ op = 0xD3) ∧ reg = 6) ∨ (op = 0xFE ∧ 2 ≤ reg.toNat) ∨
        (op = 0xFF ∧ reg = 7) ∨ (op = 0xFF ∧ (reg = 3 ∨ reg = 5) ∧ mod = 3) ∨ ((op = 0xC4 ∨ op = 0xC5) ∧ mod = 3) := by
  simp only [refusedEncoding, regField_modRMByte, modField_modRMByte, Bool.or_eq_true, Bool.and_eq_true, beq_iff_eq,
    bne_iff_ne, decide_eq_true_eq, ne_eq, or_assoc, and_assoc, ← BitVec.toNat_inj, BitVec.ofNat_eq_ofNat,
    BitVec.toNat_ofNat]

/-- How many displacement bytes there are, by the fields of the ModR/M byte (30_encoding.md R306). -/
theorem dispLength_modRMByte (mod : BitVec 2) (reg rm : BitVec 3) :
    dispLength (modRMByte mod reg rm) =
      if mod = 0 then (if rm = 6 then 2 else 0) else if mod = 1 then 1 else if mod = 2 then 2 else 0 := by
  simp only [dispLength, modField_modRMByte, rmField_modRMByte]
  revert mod rm
  decide

theorem decodeRefused_of_length {op : Byte} {bytes : List Byte} (h : refusedLength op bytes.head? ≤ bytes.length) :
    decodeRefused op bytes =
      .ok (.refused op (bytes.take (refusedLength op bytes.head?)), bytes.drop (refusedLength op bytes.head?)) :=
  if_pos h

theorem decodeRefused_truncated {op : Byte} {bytes : List Byte} (h : bytes.length < refusedLength op bytes.head?) :
    decodeRefused op bytes = .error .truncated :=
  if_neg (Nat.not_le.mpr h)

/-- The bytes of a refused encoding, with any bytes after them, decode to it. -/
theorem decode_refused {op b : Byte} {operands : List Byte} (h : refusedEncoding op (some b) = true)
    (hl : (b :: operands).length = refusedLength op (some b)) (rest : List Byte) :
    decode (op :: b :: (operands ++ rest)) = .ok (.refused op (b :: operands), rest) :=
  decode_encode (.refused op (b :: operands)) (by simp [Instr.wf, h, ← hl]) rest

/-- A refused encoding is not refused before all its bytes are read (30_encoding.md R316). -/
theorem decode_refused_truncated {op b : Byte} {operands : List Byte} (h : refusedEncoding op (some b) = true)
    (hl : (b :: operands).length < refusedLength op (some b)) : decode (op :: b :: operands) = .error .truncated := by
  obtain ⟨k, hk⟩ := opForm_partlyRefused (mem_partlyRefused h)
  simp only [decode, hk, decodeModRM, h, if_true, decodeRefused_truncated hl]

/-- Settles O4: `refusedEncoding` is R313's list, and `refusedLength` counts the bytes R316 reads. -/
theorem refusedEncodings : Obligations.RefusedEncodings := by
  refine ⟨fun _ => rfl, fun op mod reg rm operands h => ?_⟩
  have hr := (refusedEncoding_modRMByte op mod reg rm).mpr h
  have hlen : refusedLength op (some (modRMByte mod reg rm)) = 1 + dispLength (modRMByte mod reg rm) +
    (if op = 0xC6 then 1 else if op = 0xC7 then 2 else 0) := rfl
  rw [dispLength_modRMByte, Nat.add_assoc, Nat.add_comm] at hlen
  refine ⟨fun hn rest => decode_refused hr ?_ rest, fun hn => decode_refused_truncated hr ?_⟩
  · rw [hlen, List.length_cons, hn]
  · rw [hlen, List.length_cons]
    exact Nat.succ_lt_succ hn

/-! ### Aliases (30_encoding.md R314) -/

/-- Two opcodes with one form without a ModR/M byte decode alike. -/
theorem decode_alias_tail {op op' : Byte} {t : Tail} (h : opForm op = .tail t) (h' : opForm op' = .tail t)
    (rest : List Byte) : decode (op :: rest) = decode (op' :: rest) :=
  (decode_tail h rest).trans (decode_tail h' rest).symm

/-- The conditional jumps have two rows of the table. -/
theorem opForm_conditional (n : Fin 16) :
    ∃ t, opForm (BitVec.ofNat 8 (0x60 + n)) = .tail t ∧ opForm (BitVec.ofNat 8 (0x70 + n)) = .tail t := by
  fin_cases n <;> exact ⟨_, rfl, rfl⟩

/-- The r/m operand does not depend on the reg field. -/
theorem decodeRM_modRMByte (mod : BitVec 2) (reg reg' rm : BitVec 3) (bs : List Byte) :
    decodeRM (modRMByte mod reg rm) bs = decodeRM (modRMByte mod reg' rm) bs := by
  simp only [decodeRM, modField_modRMByte, rmField_modRMByte]

/-- Two reg fields for which a group has one form decode alike, where R313 refuses neither. -/
theorem decode_alias_reg {op : Byte} {k : Byte → BitVec 3 → RM (BitVec 3) → Tail} {mod : BitVec 2}
    {rm : BitVec 3} (reg reg' : BitVec 3) (h : opForm op = .modrm k)
    (hr : refusedEncoding op (some (modRMByte mod reg rm)) = false)
    (hr' : refusedEncoding op (some (modRMByte mod reg' rm)) = false)
    (hk : ∀ m, k (modRMByte mod reg rm) reg m = k (modRMByte mod reg' rm) reg' m) (rest : List Byte) :
    decode (op :: modRMByte mod reg rm :: rest) = decode (op :: modRMByte mod reg' rm :: rest) := by
  simp only [decode, h, decodeModRM, hr, hr', Bool.false_eq_true, if_false, regField_modRMByte,
    decodeRM_modRMByte mod reg reg' rm]
  cases decodeRM (modRMByte mod reg' rm) rest with
  | none => rfl
  | some m => exact congrArg (Tail.finish · m.2) (hk m.1)

/-- 8C ignores the high bit of its reg field. -/
theorem byReg_or_four {α : Type} (r : BitVec 3) (a0 a1 a2 a3 : α) :
    byReg (r ||| 4) a0 a1 a2 a3 a0 a1 a2 a3 = byReg (r &&& 3) a0 a1 a2 a3 a0 a1 a2 a3 := by
  have h : ∀ r : BitVec 3, r = 0 ∨ r = 1 ∨ r = 2 ∨ r = 3 ∨ r = 4 ∨ r = 5 ∨ r = 6 ∨ r = 7 := by decide
  rcases h r with rfl | rfl | rfl | rfl | rfl | rfl | rfl | rfl <;> rfl

/-- Of the MOVs to a segment register R313 refuses those whose reg field is 1 or 5. -/
theorem refusedEncoding_movSReg (mod : BitVec 2) {reg : BitVec 3} (rm : BitVec 3) (h : ¬(reg = 1 ∨ reg = 5)) :
    refusedEncoding 0x8E (some (modRMByte mod reg rm)) = false :=
  Bool.eq_false_iff.mpr fun hr => h (by simpa using (refusedEncoding_modRMByte ..).mp hr)

/-- LEA with a register operand writes its register, with a free value (40_data_transfer.md R424). -/
theorem leaGwM_reg_completes (g r : Reg16) (s : State) :
    Completes (.leaGwM g (.reg r)) s fun t => ∃ v, Moved16 s t (.reg g) v :=
  have hread : ReadOnly s { s with draws := s.draws + 1 } := by constructor <;> rfl
  ⟨_, rfl, _, moved16_reg hread g (Config.freeWord s.draws)⟩

/-- Settles O3: each pair of encodings has one form in the table, and R313 refuses neither of them. -/
theorem aliasesDecodeAlike : Obligations.AliasesDecodeAlike := by
  refine ⟨fun n rest => ?_, fun rest => ?_, fun _ => ⟨decode_alias_tail rfl rfl _, decode_alias_tail rfl rfl _⟩,
    fun _ => ⟨decode_alias_tail rfl rfl _, decode_alias_tail rfl rfl _⟩, decode_alias_tail rfl rfl,
    fun mod rm rest => ⟨?_, ?_⟩, fun r mod rm rest => ?_, fun r mod rm rest hr => ?_, fun _ => rfl,
    fun g r rest => ⟨decode_encode (.leaGwM g (.reg r)) rfl rest, leaGwM_reg_completes g r⟩⟩
  · obtain ⟨t, h, h'⟩ := opForm_conditional n
    exact decode_alias_tail h h' rest
  · cases rest <;> rfl
  · exact decode_alias_reg (op := 0xF6) 1 0 rfl rfl rfl (fun _ => rfl) rest
  · exact decode_alias_reg (op := 0xF7) 1 0 rfl rfl rfl (fun _ => rfl) rest
  · exact decode_alias_reg (op := 0x8C) (r ||| 4) (r &&& 3) rfl rfl rfl (fun _ => byReg_or_four r ..) rest
  · refine decode_alias_reg (op := 0x8E) (r ||| 4) r rfl (refusedEncoding_movSReg _ _ ?_)
      (refusedEncoding_movSReg _ _ ?_) (fun _ => ?_) rest
    · rcases hr with rfl | rfl | rfl <;> decide
    · rcases hr with rfl | rfl | rfl <;> decide
    · rcases hr with rfl | rfl | rfl <;> rfl

/-! ### Every sequence of bytes that is long enough decodes, and a prefix is one byte (30_encoding.md R301, R316) -/

/-- No instruction that the form gives stands for a prefix. -/
def NoPrefix : Tail → Prop
  | .done i => i.isPrefix = false
  | .ib f => ∀ b, (f b).isPrefix = false
  | .iw f => ∀ w, (f w).isPrefix = false
  | .far f => ∀ v w, (f v w).isPrefix = false

/-- How many immediate bytes the form reads (30_encoding.md R309). -/
def immediateLength : Tail → Nat
  | .done _ => 0
  | .ib _ => 1
  | .iw _ => 2
  | .far _ => 4

theorem immediateLength_le (t : Tail) : immediateLength t ≤ 4 := by
  unfold immediateLength
  split <;> decide

/-- What can follow a ModR/M byte and its displacement: no far pointer, and no prefix. -/
def OperandTail (t : Tail) : Prop := NoPrefix t ∧ immediateLength t ≤ 2

/-- An entry of the table: a prefix is one that reads no byte after its own. -/
def RegularForm : Form → Prop
  | .tail t => (∃ i, t = .done i) ∨ NoPrefix t
  | .modrm k => ∀ b r m, OperandTail (k b r m)

@[simp] theorem operandTail_done {i : Instr} : OperandTail (.done i) ↔ i.isPrefix = false := by
  simp [OperandTail, NoPrefix, immediateLength]

@[simp] theorem operandTail_ib {f : Byte → Instr} : OperandTail (.ib f) ↔ ∀ b, (f b).isPrefix = false := by
  simp [OperandTail, NoPrefix, immediateLength]

@[simp] theorem operandTail_iw {f : Word → Instr} : OperandTail (.iw f) ↔ ∀ w, (f w).isPrefix = false := by
  simp [OperandTail, NoPrefix, immediateLength]

@[simp] theorem operandTail_memOnly {f : EA → Instr} {i : Instr} (m : RM (BitVec 3))
    (h : (∀ a, (f a).isPrefix = false) ∧ i.isPrefix = false) : OperandTail (memOnly m f i) := by
  obtain ⟨hf, hi⟩ := h
  cases m with
  | reg r => exact operandTail_done.mpr hi
  | mem a => exact operandTail_done.mpr (hf a)

/-- A group is one of its eight forms. -/
@[simp] theorem operandTail_byReg {a0 a1 a2 a3 a4 a5 a6 a7 : Tail} (r : BitVec 3)
    (h : ∀ t ∈ [a0, a1, a2, a3, a4, a5, a6, a7], OperandTail t) : OperandTail (byReg r a0 a1 a2 a3 a4 a5 a6 a7) := by
  unfold byReg
  split <;> exact h _ (by simp)

/-- Every entry of the table is regular, row by row. -/
theorem regularForm_opTable : ∀ f ∈ opTable, RegularForm f := by
  unfold opTable
  simp only [List.forall_mem_append]
  and_intros <;>
    simp [opRow0, opRow1, opRow2, opRow3, opRow4, opRow5, opRow6, opRow7, opRow8, opRow9, opRowA, opRowB, opRowC,
      opRowD, opRowE, opRowF, RegularForm, NoPrefix, ebGb, ewGw, gbEb, gwEw, Sys2Proof.esc, gwMp, grp8, grp16,
      Instr.isPrefix]

theorem length_opTable : opTable.length = 256 := by
  simp only [opTable, List.length_append]
  rfl

theorem regularForm_opForm (op : Byte) : RegularForm (opForm op) := by
  have h : op.toNat < opTable.length := by
    rw [length_opTable]
    exact op.isLt
  rw [opForm, List.getD_eq_getElem _ _ h]
  exact regularForm_opTable _ (List.getElem_mem h)

/-- The immediate bytes are read where they are there. -/
theorem finish_of_length {t : Tail} {bs : List Byte} (h : immediateLength t ≤ bs.length) :
    ∃ i, t.finish bs = .ok (i, bs.drop (immediateLength t)) :=
  match t, bs, h with
  | .done i, _, _ => ⟨i, rfl⟩
  | .ib _, _ :: _, _ => ⟨_, rfl⟩
  | .iw _, _ :: _ :: _, _ => ⟨_, rfl⟩
  | .far _, _ :: _ :: _ :: _ :: _, _ => ⟨_, rfl⟩

/-- What a form without prefixes gives is no prefix. -/
theorem isPrefix_of_finish {t : Tail} (ht : NoPrefix t) {bs rest : List Byte} {i : Instr}
    (h : t.finish bs = .ok (i, rest)) : i.isPrefix = false := by
  unfold Tail.finish at h
  split at h
  · cases h
    exact ht
  all_goals
    split at h <;> cases h
    exact ht ..

/-- The displacement bytes are read where they are there (30_encoding.md R306). -/
theorem decodeRM_of_length {b : Byte} {bs : List Byte} (h : 2 ≤ bs.length) :
    ∃ m rest, decodeRM b bs = some (m, rest) ∧ bs.length ≤ rest.length + 2 := by
  obtain ⟨x, y, bs, rfl⟩ : ∃ x y l, bs = x :: y :: l :=
    match bs, h with
    | x :: y :: l, _ => ⟨x, y, l, rfl⟩
  unfold decodeRM
  split
  · split
    · exact ⟨_, _, rfl, by simp⟩
    · exact ⟨_, _, rfl, by simp⟩
  all_goals exact ⟨_, _, rfl, by simp⟩

/-- Five bytes after the opcode byte are enough for the ModR/M byte, the displacement and the immediate. -/
theorem decodeModRM_of_length {op : Byte} {k : Byte → BitVec 3 → RM (BitVec 3) → Tail}
    (hk : ∀ b r m, OperandTail (k b r m)) {bs : List Byte} (h : 5 ≤ bs.length) :
    ∃ i rest, decodeModRM op k bs = .ok (i, rest) := by
  match bs, h with
  | b :: bs, h =>
    have h4 : 4 ≤ bs.length := Nat.le_of_succ_le_succ h
    simp only [decodeModRM]
    split
    · exact ⟨_, _, decodeRefused_of_length ((refusedLength_le ..).trans h)⟩
    · obtain ⟨m, rest, hm, hr⟩ := decodeRM_of_length (b := b) (bs := bs) (by omega)
      obtain ⟨-, hi⟩ := hk b (regField b) m
      obtain ⟨i, hf⟩ := finish_of_length (bs := rest) (hi.trans (by omega))
      simp only [hm]
      exact ⟨i, _, hf⟩

/-- Six bytes are enough for every instruction (30_encoding.md R300). -/
theorem decode_of_length {bs : List Byte} (h : maxLength ≤ bs.length) : ∃ i rest, decode bs = .ok (i, rest) := by
  match bs, h with
  | op :: bs, h =>
    have h5 : 5 ≤ bs.length := Nat.le_of_succ_le_succ h
    have hf := regularForm_opForm op
    simp only [decode]
    split
    next t _ =>
      obtain ⟨i, hi⟩ := finish_of_length (t := t) (bs := bs) ((immediateLength_le t).trans (by omega))
      exact ⟨i, _, hi⟩
    next k hk =>
      rw [hk] at hf
      exact decodeModRM_of_length hf h5

/-- An instruction with a ModR/M byte is no prefix. -/
theorem isPrefix_of_decodeModRM {op : Byte} {k : Byte → BitVec 3 → RM (BitVec 3) → Tail}
    (hk : ∀ b r m, OperandTail (k b r m)) {bs rest : List Byte} {i : Instr}
    (h : decodeModRM op k bs = .ok (i, rest)) : i.isPrefix = false := by
  unfold decodeModRM at h
  split at h
  · cases h
  · split at h
    · simp only [decodeRefused] at h
      split at h <;> cases h
      rfl
    · split at h
      · exact isPrefix_of_finish (hk ..).1 h
      · cases h

/-- A prefix is one byte (30_encoding.md R301). -/
theorem length_of_decode_isPrefix {bs rest : List Byte} {i : Instr} (h : decode bs = .ok (i, rest))
    (hp : i.isPrefix = true) : bs.length - rest.length = 1 := by
  unfold decode at h
  split at h
  · cases h
  next op bs' =>
    have hf := regularForm_opForm op
    split at h
    next t ht =>
      rw [ht] at hf
      obtain ⟨j, rfl⟩ | hn := hf
      · cases h
        exact Nat.add_sub_cancel_left ..
      · exact absurd hp (Bool.eq_false_iff.mp (isPrefix_of_finish hn h))
    next k hk =>
      rw [hk] at hf
      exact absurd hp (Bool.eq_false_iff.mp (isPrefix_of_decodeModRM hf h))

end Sys2Proof.Proofs
end

section
/-! Operands, prefixes, and the step: what it runs, and that nothing but the mark stops it (30_encoding.md R302, R306 to
R308, R313, R315, R317, 60_exceptions.md R1051, R1085, 70_reset_and_hazards.md R1115). -/

namespace Sys2Proof.Proofs

open Sys2Proof Sys2Proof.Machine Sys2Proof.Laws

variable {s : State}

/-! ### Operands and prefixes -/

/-- Settles O9: each addressing form by its case, and SEG by whether there is an override. -/
theorem effectiveAddress : Obligations.EffectiveAddress := by
  intro s d off
  have hseg (dflt : SReg) : (s.eu.segOverride = none → s.segValue dflt = s.sreg dflt) ∧
      ∀ g, s.eu.segOverride = some g → s.segValue dflt = s.sreg g :=
    ⟨fun h => by simp only [State.segValue, State.segReg, h, Option.getD_none],
      fun g h => by simp only [State.segValue, State.segReg, h, Option.getD_some]⟩
  refine ⟨?_, fun h => ?_, fun g a h => (hseg _).2 g h, hseg, fun _ => rfl, fun _ => rfl, fun _ => ⟨rfl, rfl⟩⟩
  · cases d <;> exact ⟨rfl, rfl, rfl, rfl, rfl, rfl, rfl, rfl, rfl⟩
  · have hd (a : EA) : s.eaSeg a = s.sreg (eaDefaultSeg a) := (hseg _).1 h
    exact ⟨hd _, hd _, hd _, hd _, hd _, hd _, hd _, hd _, hd _⟩

/-- Settles O47: each prefix writes its part of the record, by definition. -/
theorem prefixesSetRecord : Obligations.PrefixesSetRecord := by
  refine fun s => ⟨fun i g h => ?_, ⟨_, rfl, rfl⟩, ⟨_, rfl, rfl⟩, ⟨_, rfl, rfl⟩⟩
  rcases h with ⟨rfl, rfl⟩ | ⟨rfl, rfl⟩ | ⟨rfl, rfl⟩ | ⟨rfl, rfl⟩ <;> exact ⟨_, rfl, rfl⟩

/-! ### Every step answers a next state (60_exceptions.md R1085) -/

/-- Every instruction answers a next state. -/
theorem exec_next (i : Instr) (s : State) : ∃ t, exec i s = .next t := by
  obtain ⟨t, h, -⟩ := exec_effect i s
  exact ⟨t, h⟩

/-- The decoder sees enough bytes for any instruction. -/
theorem maxLength_le_window (s : State) : maxLength ≤ s.window.length := by
  rw [State.window, List.length_append, length_codeFrom]
  omega

theorem runDecoded_next (s : State) (i : Instr) : ∃ t, s.runDecoded i = .next t := by
  unfold State.runDecoded
  split
  · exact ⟨_, rfl⟩
  · exact exec_next ..

/-- A prefix is run, and decoding goes on at the byte after it (30_encoding.md R302). -/
theorem runFrom_isPrefix {n : Nat} {u : State} {i : Instr} {rest : List Byte} (h : decode s.window = .ok (i, rest))
    (hp : i.isPrefix = true) (he : exec i (s.consume 1) = .next u) : State.runFrom (n + 1) s = State.runFrom n u := by
  simp only [State.runFrom, h, length_of_decode_isPrefix h hp, hp, if_true, he]

/-- A run of prefixes and the instruction after it answer a next state, however many prefixes are read. -/
theorem runFrom_next (n : Nat) (s : State) : ∃ t, State.runFrom n s = .next t := by
  induction n generalizing s with
  | zero => exact ⟨_, rfl⟩
  | succ n ih =>
    obtain ⟨i, rest, h⟩ := decode_of_length (maxLength_le_window s)
    cases hp : i.isPrefix with
    | true =>
      obtain ⟨u, he⟩ := exec_next i (s.consume 1)
      rw [runFrom_isPrefix h hp he]
      exact ih u
    | false =>
      simp only [State.runFrom, h, hp, Bool.false_eq_true, if_false]
      exact runDecoded_next ..

theorem finish_next (start t : State) : ∃ u, finish start (.next t) = .next u := by
  simp only [finish]
  split
  · exact ⟨_, rfl⟩
  · split <;> exact ⟨_, rfl⟩

theorem finish_runFrom_next (start : State) (n : Nat) (s : State) :
    ∃ u, finish start (State.runFrom n s) = .next u := by
  obtain ⟨t, ht⟩ := runFrom_next n s
  rw [ht]
  exact finish_next start t

theorem proceed_next (s : State) : ∃ t, s.proceed = .next t := by
  unfold State.proceed
  split
  · exact ⟨_, rfl⟩
  · split
    · exact ⟨_, rfl⟩
    · split
      · exact ⟨_, rfl⟩
      · exact finish_runFrom_next ..

theorem runStep_next (s : State) : ∃ t, s.runStep = .next t := by
  unfold State.runStep
  split
  · exact ⟨_, rfl⟩
  · split
    · exact finish_runFrom_next ..
    · dsimp only
      split
      · exact ⟨_, rfl⟩
      · exact proceed_next _

/-- A state without the mark takes a step, one with it refuses (10_state.md R123). -/
theorem step_of_not_refused (h : s.refused = false) : step s = s.beginStep.runStep := by
  simp only [step, h, Bool.false_eq_true, if_false]

theorem step_of_refused (h : s.refused = true) : step s = .refused .unsupportedOpcode := by
  simp only [step, h, if_true]

/-- Under a repeat prefix R313 refuses MUL, IMUL, DIV and IDIV. -/
theorem runDecoded_refused {i : Instr} (h : s.eu.repPrefix.isSome = true) (hi : i.refusedUnderRepeat = true) :
    s.runDecoded i = .next s.markRefused := by
  simp only [State.runDecoded, h, hi, Bool.and_self, if_true]

/-- Settles O48: the mark stops a step by definition, and without it decoding, execution and the end of a step each
answer a next state. -/
theorem refusalSetsMark : Obligations.RefusalSetsMark := by
  refine ⟨fun _ _ _ => ⟨_, rfl, rfl⟩, fun s m n i h hi => runDecoded_refused h ?_, fun _ _ _ => rfl,
    fun _ => step_of_refused, fun s h => ?_⟩
  · simp only [List.mem_cons, List.not_mem_nil, or_false] at hi
    rcases hi with rfl | rfl | rfl | rfl | rfl | rfl | rfl | rfl <;> rfl
  · rw [step_of_not_refused h]
    exact runStep_next _

/-! ### The boundary and the instruction (30_encoding.md R315, R316) -/

/-- A step at whose boundary an interrupt is taken ends there. -/
theorem step_taken {c : State} (hr : s.refused = false) (hin : s.nextInput.reset = false) (hd : s.eu.decoding = false)
    (hb : s.beginStep.boundaryCheck = (true, c)) : step s = .next c.endStep := by
  have hd' : s.beginStep.eu.decoding = false := hd
  simp [step_of_not_refused hr, State.runStep, hin, hd', hb]

/-- Settles O53: what a step samples holds by definition; a taken interrupt ends what was in progress; and with none
taken the step runs from the state whose shadows have ended. -/
theorem stepRunsDecoded : Obligations.StepRunsDecoded := by
  refine ⟨fun s => ⟨rfl, rfl, rfl, rfl, rfl, rfl, rfl, rfl, rfl, rfl, _, rfl⟩, fun s c hr hin hd hb => ?_,
    fun s c i rest hr hin hd hb hh hw hrep hdec hp => ?_⟩
  · obtain ⟨hf, hh, hw, hrep, -, -⟩ := boundaryCheck_taken hb
    refine ⟨step_taken hr hin hd hb, rfl, rfl, rfl, rfl, rfl, rfl, flushed_endStep hf, ?_, hh, hw, hrep⟩
    simp [Eu.ended, hrep]
  · obtain rfl : s.beginStep.clearShadows = c := by
      rw [← boundaryCheck_none (congrArg Prod.fst hb), hb]
    refine ⟨?_, rfl, rfl, rfl, rfl, rfl⟩
    have hl : prefixLimit = 65535 + 1 := rfl
    rw [step_runInstruction hr hin hd hh hw hrep hb, State.runInstruction, hl, runFrom_of_decode hdec hp rfl]
    rfl

/-- Settles O54: a prefix is one byte and writes the record alone, and a run of prefixes passes no boundary. -/
theorem prefixGoesOn : Obligations.PrefixGoesOn := by
  refine ⟨fun n s u i rest hdec hp he => ?_, fun _ => rfl, fun s hr hin hd => ?_⟩
  · obtain ⟨e, he', -, -⟩ := exec_isPrefix hp (s.consume 1)
    obtain rfl : { s.consume 1 with eu := e } = u := Host.Outcome.next.inj (he'.symm.trans he)
    exact ⟨runFrom_isPrefix hdec hp he, rfl, rfl, rfl, rfl⟩
  · have hd' : s.beginStep.eu.decoding = true := hd
    simp [step_of_not_refused hr, State.runStep, hin, hd', State.resumeDecoding]

end Sys2Proof.Proofs
end

section
/-! The data transfer instructions: the moves, the stack, the exchanges, the ports, the address transfers and the
conversions (40_data_transfer.md R400 to R428, 41_arithmetic.md R523 to R525). -/

namespace Sys2Proof.Proofs

open Sys2Proof Sys2Proof.Machine Sys2Proof.Laws

variable {s u : State}

/-! ### What a write leaves behind -/

theorem moved8_writeRM8 (h : s.MemOk) (m : RM Reg8) (v : Byte) : Moved8 s (s.writeRM8 m v) m v :=
  ⟨sameCore_writeRM8 .., flags_writeRM8 .., wrote8_writeRM8 h ..⟩

theorem moved16_writeRM16 (h : s.MemOk) (m : RM Reg16) (v : Word) : Moved16 s (s.writeRM16 m v) m v :=
  ⟨sameCore_writeRM16 .., flags_writeRM16 .., wrote16_writeRM16 h ..⟩

theorem sameCore_setReg8 (s : State) (r : Reg8) (v : Byte) : SameCore s (s.setReg8 r v) :=
  sameCore_writeRM8 s (.reg r) v

theorem sameCore_writeB (s : State) (seg off : Word) (v : Byte) : SameCore s (s.writeB seg off v) :=
  ⟨⟨rfl, rfl, rfl, rfl, rfl, rfl, prefix_writeB ..⟩, rfl, rfl, rfl, rfl⟩

theorem sameCore_writeW (s : State) (seg off v : Word) : SameCore s (s.writeW seg off v) :=
  ⟨⟨rfl, rfl, rfl, rfl, rfl, rfl, prefix_writeW ..⟩, rfl, rfl, rfl, rfl⟩

/-- A byte register written after steps that touched no register; `OnlyReg8` speaks of registers alone. -/
theorem onlyReg8_of_regs {t : State} {r : Reg8} {v : Byte} (hu : u.regs = s.regs) (ht : t.regs = u.regs.set8 r v) :
    OnlyReg8 s t r v := by
  simpa only [OnlyReg8, State.reg8, ht, hu, setReg8_regs] using onlyReg8_set s r v

/-- A word register written after steps that touched no register. -/
theorem onlyReg16_of_regs {t : State} {r : Reg16} {v : Word} (hu : u.regs = s.regs) (ht : t.regs = u.regs.set r v) :
    OnlyReg16 s t r v := by
  simpa only [OnlyReg16, State.reg16, ht, hu, setReg16_regs] using onlyReg16_set s r v

/-! ### MOV (R400 to R402, R405, R406) -/

theorem exec_instrMovIb (r : Reg8) (imm : Byte) (s : State) : exec (instrMovIb r imm) s = .next (s.setReg8 r imm) := by
  cases r <;> rfl

theorem exec_instrMovIw (r : Reg16) (imm : Word) (s : State) :
    exec (instrMovIw r imm) s = .next (s.setReg16 r imm) := by
  cases r <;> rfl

/-- Settles O20: a MOV writes an operand, after a read where its source is in memory. -/
theorem moves : Obligations.Moves := by
  refine fun s h => ⟨fun m g => ⟨⟨_, rfl, moved8_writeRM8 h ..⟩, ⟨_, rfl, moved8_reg (readOnly_readRM8 ..) ..⟩⟩,
    fun m g => ⟨⟨_, rfl, moved16_writeRM16 h ..⟩, ⟨_, rfl, moved16_reg (readOnly_readRM16 ..) ..⟩⟩,
    fun m imm => ⟨_, rfl, moved8_writeRM8 h ..⟩,
    fun m imm => ⟨_, rfl, moved16_writeRM16 h ..⟩,
    fun r imm => ⟨_, exec_instrMovIb .., moved8_reg (.refl s) ..⟩,
    fun r imm => ⟨_, exec_instrMovIw .., moved16_reg (.refl s) ..⟩, fun off => ⟨?_, ?_, ?_, ?_⟩⟩
  · exact ⟨_, rfl, moved8_reg (readOnly_readB ..) ..⟩
  · exact ⟨_, rfl, moved16_reg (readOnly_readW ..) ..⟩
  · exact ⟨_, rfl, sameCore_writeB .., rfl, fun _ => rfl, memAfter_writeB h _ _ _⟩
  · exact ⟨_, rfl, sameCore_writeW .., rfl, fun _ => rfl, memAfter_writeW h _ _ _⟩

/-! ### MOV and POP of segment registers (R403, R404, R416, 60_exceptions.md R1050) -/

/-- A segment register is loaded, and the shadow of a load set where SREG_LOAD_INHIBIT is true. -/
theorem segLoad_effect (c : SameCore s u) (hf : u.flags = s.flags) (g : SReg) (v : Word) :
    let t := (u.setSReg g v).shadowLoad
    SameFixed s t ∧ t.flags = s.flags ∧ t.ip = s.ip ∧ t.biu = s.biu ∧
      t.eu = { s.eu with inhibitAll := s.eu.inhibitAll || s.cfg.sregLoadInhibit } ∧ t.sreg g = v ∧
        ∀ h, h ≠ g → t.sreg h = s.sreg h := by
  obtain ⟨fixed, hs, hip, heu, hbiu⟩ := c
  have hcfg : u.cfg = s.cfg := fixed.1
  exact ⟨fixed, hf, hip, hbiu, by simp [State.shadowLoad, heu, hcfg], sregs_get_set_self ..,
    fun k hk => (sregs_get_set_ne _ _ hk).trans (congrArg (·.get k) hs)⟩

theorem exec_instrMovFromSeg (g : SReg) (m : RM Reg16) (s : State) :
    exec (instrMovFromSeg g m) s = .next (s.writeRM16 m (s.sreg g)) := by
  cases g <;> rfl

theorem exec_instrMovToSeg {g : SReg} {f : RM Reg16 → Instr} (h : instrMovToSeg g = some f) (m : RM Reg16) (s : State) :
    exec (f m) s = .next (movSegRM g m s) := by
  cases g <;> cases h <;> rfl

theorem exec_instrPopSeg {g : SReg} {i : Instr} (h : instrPopSeg g = some i) (s : State) :
    exec i s = .next (popSeg g s) := by
  cases g <;> cases h <;> rfl

/-- SP moves up by 2 in a pop. -/
theorem onlySp_of_pop (h : u.regs = s.pop.2.regs) : OnlySp s u (s.regs.sp + 2) :=
  onlyReg16_of_regs rfl (h.trans (regs_pop s))

theorem memSame_of_pop (h : u.mem = s.pop.2.mem) : MemSame s u := fun a => by rw [h, mem_pop]

/-- Settles O21: the load of a segment register, after the read of the operand or the pop. -/
theorem segmentRegisterMoves : Obligations.SegmentRegisterMoves := by
  refine fun s h => ⟨fun g m => ⟨_, exec_instrMovFromSeg .., moved16_writeRM16 h ..⟩,
    fun g f hf m => ⟨_, exec_instrMovToSeg hf .., ?_⟩, fun g i hi => ⟨_, exec_instrPopSeg hi .., ?_⟩⟩
  · have ro := readOnly_readRM16 s m
    obtain ⟨fixed, rest⟩ := segLoad_effect ro.sameCore ro.flags g (s.readRM16 m).1
    exact ⟨fixed, wroteNothing_of ro.regs ro.mem, rest⟩
  · obtain ⟨fixed, rest⟩ := segLoad_effect (sameCore_pop s) (flags_pop s) g s.top
    exact ⟨fixed, onlySp_of_pop rfl, memSame_of_pop rfl, rest⟩

/-! ### PUSH (R410 to R413) -/

theorem exec_instrPush (r : Reg16) (s : State) :
    exec (instrPush r) s = .next (s.push (if r = .sp then s.regs.sp - 2 else s.reg16 r)) := by
  cases r <;> rfl

theorem exec_instrPushSeg (g : SReg) (s : State) : exec (instrPushSeg g) s = .next (s.push (s.sreg g)) := by
  cases g <;> rfl

theorem pushRM_of_ne_sp {m : RM Reg16} (h : m ≠ .reg .sp) (s : State) :
    pushRM m s = (s.readRM16 m).2.push (s.readRM16 m).1 := by
  unfold pushRM
  split
  · exact absurd rfl h
  · rfl

theorem readOnly_drawBit (s : State) : ReadOnly s s.drawBit.2 := by constructor <;> rfl

/-- Settles O22: every form pushes its word, from the state that the read of the operand has left. -/
theorem pushes : Obligations.Pushes := by
  refine fun s h => ⟨fun r => ⟨_, exec_instrPush .., pushed_after h (.refl s) _⟩,
    fun g => ⟨_, exec_instrPushSeg .., pushed_after h (.refl s) _⟩, fun m hm => ⟨_, rfl, ?_⟩, ⟨_, rfl, ?_⟩,
    ⟨_, rfl, pushed_after h (.refl s) _⟩⟩
  · rw [pushRM_of_ne_sp hm]
    exact pushed_after h (readOnly_readRM16 s m) _
  · have hp := pushed_after h (readOnly_drawBit s)
    simp only [pushRM]
    split
    · exact .inl (hp _)
    · exact .inr (hp _)

/-! ### POP (R415, R417, R418) -/

theorem exec_instrPop (r : Reg16) (s : State) : exec (instrPop r) s = .next (popReg r s) := by
  cases r <;> rfl

/-- A pop into a word register: SP moves first, so that the word read stands in SP. -/
theorem popReg_effect (r : Reg16) (s : State) :
    let t := popReg r s
    SameCore s t ∧ MemSame s t ∧ t.flags = s.flags ∧ t.reg16 r = s.top ∧ (r ≠ .sp → t.regs.sp = s.regs.sp + 2) ∧
      ∀ q, q ≠ r → q ≠ .sp → t.reg16 q = s.reg16 q := by
  obtain ⟨hsp, hne⟩ : OnlySp s s.pop.2 (s.regs.sp + 2) := onlySp_of_pop rfl
  obtain ⟨hr, hother⟩ := onlyReg16_set s.pop.2 r s.top
  exact ⟨SameCore.trans (sameCore_pop s) (sameCore_setReg16 ..), memSame_of_pop rfl, flags_pop s, hr,
    fun h => (hother .sp h.symm).trans hsp, fun q hq hq' => (hother q hq).trans (hne q hq')⟩

/-- No addressing mode has SP in it (30_encoding.md R306). -/
theorem ea_pop (s : State) (a : EA) : s.pop.2.ea a = s.ea a := by
  rw [State.ea, regs_pop]
  cases a with
  | direct off => rfl
  | based b d => cases b <;> rfl

theorem eaSeg_pop (s : State) (a : EA) : s.pop.2.eaSeg a = s.eaSeg a := by
  obtain ⟨-, hs, -, heu, -⟩ := sameCore_pop s
  simp only [State.eaSeg, State.segValue, State.segReg, State.sreg, hs, heu]

theorem regions_pop (s : State) : s.pop.2.plat.regions = s.plat.regions := (readOnly_readW ..).regions

/-- A pop into memory is a store at the SEG:EA of the state before the pop. -/
theorem popRM_mem (a : EA) (s : State) : popRM (.mem a) s = s.pop.2.writeW (s.eaSeg a) (s.ea a) s.top := by
  rw [← eaSeg_pop, ← ea_pop]
  rfl

theorem memAfter_popRM (h : s.MemOk) (a : EA) :
    MemAfter s (popRM (.mem a) s) (wordStores (s.eaSeg a) (s.ea a) s.top) := by
  rw [popRM_mem]
  exact MemAfter.of_same (memAfter_writeW (MemOk.of_mem h (mem_pop s)) _ _ _) (mem_pop s) (regions_pop s)

/-- Settles O23: each form writes its destination after the pop. -/
theorem pops : Obligations.Pops := by
  refine fun s h => ⟨fun r => ⟨_, exec_instrPop .., popReg_effect r s⟩, fun r => ⟨_, rfl, popReg_effect r s⟩,
    fun a => ⟨_, rfl, ?_⟩, ⟨_, rfl, ?_⟩⟩
  · exact ⟨SameCore.trans (sameCore_pop s) (sameCore_writeRM16 ..), flags_pop s, onlySp_of_pop rfl, memAfter_popRM h a⟩
  · exact ⟨SameCore.trans (sameCore_pop s) (sameCore_setFlags ..), memSame_of_pop rfl, onlySp_of_pop rfl, rfl⟩

/-! ### XCHG (R419, R420) -/

/-- Two byte registers change places, also where they are one. -/
theorem xchgRM8_reg (r g : Reg8) (s : State) :
    let t := xchgRM8 (.reg r) g s
    t.reg8 r = s.reg8 g ∧ t.reg8 g = s.reg8 r ∧ (∀ q, q ≠ r → q ≠ g → t.reg8 q = s.reg8 q) ∧
      t.regs.sp = s.regs.sp ∧ t.regs.bp = s.regs.bp ∧ t.regs.si = s.regs.si ∧ t.regs.di = s.regs.di := by
  obtain ⟨hr, hrest, hsp, hbp, hsi, hdi⟩ := onlyReg8_set s r (s.reg8 g)
  obtain ⟨hg, hrest', hsp', hbp', hsi', hdi'⟩ := onlyReg8_set (s.setReg8 r (s.reg8 g)) g (s.reg8 r)
  refine ⟨?_, hg, fun q hqr hqg => (hrest' q hqg).trans (hrest q hqr), hsp'.trans hsp, hbp'.trans hbp,
    hsi'.trans hsi, hdi'.trans hdi⟩
  by_cases hrg : r = g
  · subst hrg
    exact hg
  · exact (hrest' r hrg).trans hr

/-- Two word registers change places, also where they are one. -/
theorem xchgRM16_reg (r g : Reg16) (s : State) :
    let t := xchgRM16 (.reg r) g s
    t.reg16 r = s.reg16 g ∧ t.reg16 g = s.reg16 r ∧ ∀ q, q ≠ r → q ≠ g → t.reg16 q = s.reg16 q := by
  obtain ⟨hr, hrest⟩ := onlyReg16_set s r (s.reg16 g)
  obtain ⟨hg, hrest'⟩ := onlyReg16_set (s.setReg16 r (s.reg16 g)) g (s.reg16 r)
  refine ⟨?_, hg, fun q hqr hqg => (hrest' q hqg).trans (hrest q hqr)⟩
  by_cases hrg : r = g
  · subst hrg
    exact hg
  · exact (hrest' r hrg).trans hr

theorem sameCore_xchgRM8 (m : RM Reg8) (g : Reg8) (s : State) : SameCore s (xchgRM8 m g s) :=
  SameCore.trans (SameCore.trans (readOnly_readRM8 s m).sameCore (sameCore_writeRM8 ..)) (sameCore_setReg8 ..)

theorem sameCore_xchgRM16 (m : RM Reg16) (g : Reg16) (s : State) : SameCore s (xchgRM16 m g s) :=
  SameCore.trans (SameCore.trans (readOnly_readRM16 s m).sameCore (sameCore_writeRM16 ..)) (sameCore_setReg16 ..)

/-- XCHG AX,AX, which is NOP, is the exchange of AX with itself (R420). -/
theorem exec_instrXchgAX (g : Reg16) (s : State) : exec (instrXchgAX g) s = .next (xchgRM16 (.reg .ax) g s) := by
  cases g <;> rfl

/-- The register's byte is stored and then the byte `v` of memory written to the register, after a read. -/
theorem exchanged8_mem (h : s.MemOk) (ro : ReadOnly s u) (a : EA) (g : Reg8) (v : Byte) :
    let t := (u.writeRM8 (.mem a) (u.reg8 g)).setReg8 g v
    t.flags = s.flags ∧ OnlyReg8 s t g v ∧ MemAfter s t (byteStore (s.eaSeg a) (s.ea a) (s.reg8 g)) := by
  have hg : u.reg8 g = s.reg8 g := congrArg (·.get8 g) ro.regs
  obtain ⟨-, hmem⟩ := wrote8_after h ro.sameCore ro.regs ro.mem (.mem a) (s.reg8 g)
  rw [hg]
  exact ⟨ro.flags, onlyReg8_of_regs ro.regs rfl, MemAfter.to_same hmem rfl⟩

/-- The register's word is stored and then the word `v` of memory written to the register, after a read. -/
theorem exchanged16_mem (h : s.MemOk) (ro : ReadOnly s u) (a : EA) (g : Reg16) (v : Word) :
    let t := (u.writeRM16 (.mem a) (u.reg16 g)).setReg16 g v
    t.flags = s.flags ∧ OnlyReg16 s t g v ∧ MemAfter s t (wordStores (s.eaSeg a) (s.ea a) (s.reg16 g)) := by
  have hg : u.reg16 g = s.reg16 g := congrArg (·.get g) ro.regs
  obtain ⟨-, hmem⟩ := wrote16_after h ro.sameCore ro.regs ro.mem (.mem a) (s.reg16 g)
  rw [hg]
  exact ⟨ro.flags, onlyReg16_of_regs ro.regs rfl, MemAfter.to_same hmem rfl⟩

/-- Settles O24: each form is one of the four exchanges, NOP by definition. -/
theorem exchanges : Obligations.Exchanges := by
  refine fun s h => ⟨fun r g => ⟨_, rfl, sameCore_xchgRM8 .., fun _ => rfl, rfl, xchgRM8_reg r g s⟩,
    fun a g => ⟨_, rfl, sameCore_xchgRM8 .., exchanged8_mem h (readOnly_readRM8 s (.mem a)) a g _⟩,
    fun r g => ⟨_, rfl, sameCore_xchgRM16 .., fun _ => rfl, rfl, xchgRM16_reg r g s⟩,
    fun a g => ⟨_, rfl, sameCore_xchgRM16 .., exchanged16_mem h (readOnly_readRM16 s (.mem a)) a g _⟩,
    fun g => ⟨_, exec_instrXchgAX .., sameCore_xchgRM16 .., fun _ => rfl, rfl, xchgRM16_reg .ax g s⟩,
    ⟨s, rfl, rfl⟩⟩

/-! ### IN and OUT (R421, R422, 20_memory.md R207, R210) -/

/-- A port that a device claims gives the head of the script, which is consumed. -/
theorem ioRead_of_claims {port : Word} (h : s.plat.claims port = true) {x : Byte} {xs : List Byte}
    (hx : s.plat.answers = x :: xs) (f : Bool) :
    s.ioRead port f =
      (x, { s with plat := { s.plat with answers := xs } }.record .ioRead (portAddr port) x f) := by
  simp only [State.ioRead, h, if_true, State.answer, hx]

/-- A port that no device claims gives 0xFF, and no answer is consumed. -/
theorem ioRead_of_not_claims {port : Word} (h : s.plat.claims port = false) (f : Bool) :
    s.ioRead port f = (0xFF, s.record .ioRead (portAddr port) 0xFF f) := by
  simp only [State.ioRead, h, Bool.false_eq_true, if_false, Config.unmappedRead]

/-- A byte read of a port is one transaction. -/
theorem bus_ioRead (s : State) (port : Word) (f : Bool) :
    (s.ioRead port f).2.bus = s.bus ++
      [{ kind := .ioRead, addr := port.setWidth 20, data := (s.ioRead port f).1, lock := s.eu.lockActive,
         final := f }] := by
  unfold State.ioRead
  split
  · have ha : s.answer.2.bus = s.bus := by
      unfold State.answer
      split <;> rfl
    simp only [record_bus, ha, (readOnly_answer s).eu, portAddr]
  · rfl

theorem claims_ioRead (s : State) (port : Word) (f : Bool) (p : Word) :
    (s.ioRead port f).2.plat.claims p = s.plat.claims p := by
  simp only [Platform.claims, (readOnly_ioRead s port f).ports]

/-- The second byte of a word read of a port. -/
def ioReadHigh (s : State) (port : Word) : Byte := ((s.ioRead port false).2.ioRead (port + 1) true).1

theorem ioReadW_fst (s : State) (port : Word) :
    (s.ioReadW port).1 = wordOf (s.ioRead port false).1 (ioReadHigh s port) := rfl

theorem bus_ioReadW (s : State) (port : Word) :
    (s.ioReadW port).2.bus = s.bus ++
      [{ kind := .ioRead, addr := port.setWidth 20, data := (s.ioRead port false).1, lock := s.eu.lockActive,
         final := false },
       { kind := .ioRead, addr := (port + 1).setWidth 20, data := ioReadHigh s port, lock := s.eu.lockActive,
         final := true }] := by
  have hhigh := bus_ioRead (s.ioRead port false).2 (port + 1) true
  rw [bus_ioRead s port false, (readOnly_ioRead s port false).eu, List.append_assoc] at hhigh
  exact hhigh

theorem ioReadHigh_of_not_claims {port : Word} (h : s.plat.claims (port + 1) = false) : ioReadHigh s port = 0xFF := by
  rw [ioReadHigh, ioRead_of_not_claims ((claims_ioRead ..).trans h)]

theorem ioRead_fst_of_not_claims {port : Word} (h : s.plat.claims port = false) (f : Bool) :
    (s.ioRead port f).1 = 0xFF := by
  rw [ioRead_of_not_claims h]

/-- IN of a byte: AL gets what the port read gives. -/
theorem inAL_effect (port : Word) (s : State) :
    let t := inAL port s
    SameCore s t ∧ MemSame s t ∧ t.flags = s.flags ∧ OnlyReg8 s t .al (s.ioReadB port).1 ∧
      t.bus = (s.ioReadB port).2.bus ∧ t.plat = (s.ioReadB port).2.plat ∧
        (s.plat.claims port = false → t.reg8 .al = 0xFF) := by
  obtain ⟨core, flags, only, mem⟩ := moved8_reg (readOnly_ioReadB s port) .al (s.ioReadB port).1
  exact ⟨core, mem, flags, only, rfl, rfl, fun h => only.1.trans (ioRead_fst_of_not_claims h true)⟩

/-- IN of a word: AX gets what the reads of the two ports give. -/
theorem inAX_effect (port : Word) (s : State) :
    let t := inAX port s
    SameCore s t ∧ MemSame s t ∧ t.flags = s.flags ∧ OnlyReg16 s t .ax (s.ioReadW port).1 ∧
      t.bus = (s.ioReadW port).2.bus ∧ t.plat = (s.ioReadW port).2.plat ∧
        (s.plat.claims port = false → s.plat.claims (port + 1) = false → t.regs.ax = 0xFFFF) := by
  obtain ⟨core, flags, only, mem⟩ := moved16_reg (readOnly_ioReadW s port) .ax (s.ioReadW port).1
  refine ⟨core, mem, flags, only, rfl, rfl, fun h h' => only.1.trans ?_⟩
  rw [ioReadW_fst, ioRead_fst_of_not_claims h, ioReadHigh_of_not_claims h']
  decide

theorem ioWriteW_eq (s : State) (port v : Word) :
    s.ioWriteW port v = { s with
      bus := s.bus ++
        [{ kind := .ioWrite, addr := port.setWidth 20, data := loByte v, lock := s.eu.lockActive, final := false },
         { kind := .ioWrite, addr := (port + 1).setWidth 20, data := hiByte v, lock := s.eu.lockActive,
           final := true }] } := by
  simp only [State.ioWriteW, State.ioWrite, State.record, portAddr, List.append_assoc, List.cons_append,
    List.nil_append]

/-- What a word read of a port takes from the script, by which of the two ports a device claims (R207, R210). -/
theorem answers_ioReadW (s : State) (port : Word) :
    let x := (s.ioRead port false).1
    let y := ioReadHigh s port
    (s.plat.claims port = true → s.plat.claims (port + 1) = true → ∀ u v vs, s.plat.answers = u :: v :: vs →
        x = u ∧ y = v ∧ (s.ioReadW port).2.plat.answers = vs) ∧
      (s.plat.claims port = true → s.plat.claims (port + 1) = false → ∀ u us, s.plat.answers = u :: us →
        x = u ∧ (s.ioReadW port).2.plat.answers = us) ∧
      (s.plat.claims port = false → s.plat.claims (port + 1) = true → ∀ u us, s.plat.answers = u :: us →
        y = u ∧ (s.ioReadW port).2.plat.answers = us) ∧
      (s.plat.claims port = false → s.plat.claims (port + 1) = false →
        (s.ioReadW port).2.plat.answers = s.plat.answers) := by
  have hk {b : Bool} (h : s.plat.claims (port + 1) = b) : (s.ioRead port false).2.plat.claims (port + 1) = b :=
    (claims_ioRead ..).trans h
  refine ⟨fun h h' u v vs hs => ?_, fun h h' u us hs => ?_, fun h h' u us hs => ?_, fun h h' => ?_⟩ <;>
    replace h' := hk h' <;> simp only [State.ioReadW, ioReadHigh]
  · rw [ioRead_of_claims h hs] at h' ⊢
    rw [ioRead_of_claims h' rfl]
    exact ⟨rfl, rfl, rfl⟩
  · rw [ioRead_of_claims h hs] at h' ⊢
    rw [ioRead_of_not_claims h']
    exact ⟨rfl, rfl⟩
  · rw [ioRead_of_not_claims h] at h' ⊢
    rw [ioRead_of_claims h' hs]
    exact ⟨rfl, rfl⟩
  · rw [ioRead_of_not_claims h] at h' ⊢
    rw [ioRead_of_not_claims h']
    rfl

/-- Settles O25: the transactions of a port read and what it takes from the script by who claims the ports; IN is such a
read into AL or AX, and OUT changes only the record of transactions. -/
theorem inputOutput : Obligations.InputOutput := by
  refine fun s => ⟨fun port => ⟨fun h x xs hx => ioRead_of_claims h hx true, fun h => ioRead_of_not_claims h true,
    (s.ioRead port false).1, ioReadHigh s port, ioReadW_fst s port, bus_ioReadW s port,
    fun h => ioRead_fst_of_not_claims h false, ioReadHigh_of_not_claims, answers_ioReadW s port⟩, ?_, ?_, ?_, ?_⟩
  · rintro i port (⟨imm, rfl, rfl⟩ | ⟨rfl, rfl⟩)
    · exact ⟨_, rfl, inAL_effect _ s⟩
    · exact ⟨_, rfl, inAL_effect _ s⟩
  · rintro i port (⟨imm, rfl, rfl⟩ | ⟨rfl, rfl⟩)
    · exact ⟨_, rfl, inAX_effect _ s⟩
    · exact ⟨_, rfl, inAX_effect _ s⟩
  · rintro i port (⟨imm, rfl, rfl⟩ | ⟨rfl, rfl⟩) <;> exact ⟨_, rfl, rfl⟩
  · rintro i port (⟨imm, rfl, rfl⟩ | ⟨rfl, rfl⟩) <;> exact ⟨_, rfl, ioWriteW_eq ..⟩

/-! ### XLAT, LEA, LDS and LES (R423 to R426) -/

/-- After a read, an offset is loaded into a general register and a segment into a segment register. -/
theorem farLoad_effect (ro : ReadOnly s u) (d : SReg) (g : Reg16) (seg off : Word) :
    let t := (u.setReg16 g off).setSReg d seg
    SameFixed s t ∧ MemSame s t ∧ t.flags = s.flags ∧ t.ip = s.ip ∧ t.eu = s.eu ∧ t.biu = s.biu ∧
      OnlyReg16 s t g off ∧ t.sreg d = seg ∧ ∀ h, h ≠ d → t.sreg h = s.sreg h :=
  ⟨ro.sameCore.1, fun b => congrArg (·.read b) ro.mem, ro.flags, ro.ip, ro.eu, ro.biu, onlyReg16_of_regs ro.regs rfl,
    sregs_get_set_self .., fun k hk => (sregs_get_set_ne _ _ hk).trans (congrArg (·.get k) ro.sregs)⟩

/-- Settles O26: XLAT writes AL after a read, LEA writes a register, and LDS and LES load a far pointer. -/
theorem addressTransfers : Obligations.AddressTransfers := by
  refine fun s => ⟨⟨_, rfl, moved8_reg (readOnly_readB ..) ..⟩,
    fun g a => ⟨_, rfl, moved16_reg (.refl s) .., rfl⟩, fun g r => leaGwM_reg_completes g r s, ?_⟩
  rintro g a i d (⟨rfl, rfl⟩ | ⟨rfl, rfl⟩)
  · exact ⟨_, rfl, farLoad_effect (readOnly_readFar s a) .ds g _ _⟩
  · exact ⟨_, rfl, farLoad_effect (readOnly_readFar s a) .es g _ _⟩

/-! ### LAHF, SAHF, CBW, CWD and SALC (R427, R428, 41_arithmetic.md R523 to R525) -/

/-- SAHF takes five flags from AH at their bits of the FLAGS word. -/
theorem sahf_eq (s : State) :
    s.sahf = s.setFlags { s.flags with
      sf := (s.reg8 .ah).getLsbD 7, zf := (s.reg8 .ah).getLsbD 6, af := (s.reg8 .ah).getLsbD 4,
      pf := (s.reg8 .ah).getLsbD 2, cf := (s.reg8 .ah).getLsbD 0 } := by
  simp [State.sahf, Flags.ofWord, zext16]

/-- Settles O31: each writes one register, or FLAGS, and reads no memory. -/
theorem conversions : Obligations.Conversions := by
  refine ⟨fun s => ⟨⟨_, rfl, moved8_reg (.refl s) ..⟩, ⟨_, rfl, ?_⟩⟩,
    fun s => ⟨⟨_, rfl, moved16_reg (.refl s) ..⟩, ⟨_, rfl, moved16_reg (.refl s) ..⟩,
      ⟨_, rfl, moved8_reg (.refl s) ..⟩⟩⟩
  rw [sahf_eq]
  exact ⟨sameCore_setFlags .., wroteNothing_of rfl rfl, rfl⟩

end Sys2Proof.Proofs
end

section
/-! The core of the arithmetic: the results and flags of additions, subtractions and logic operations in closed form,
for every width (41_arithmetic.md R501 to R504, R512, R526, 42_logic_shift.md R600). -/

namespace Sys2Proof.Proofs

open Sys2Proof Sys2Proof.Machine

variable {w : Nat}

/-! ### Signs and zero -/

theorem beq_zero_iff_toNat (r : BitVec w) : (r == 0) = true ↔ r.toNat = 0 := by
  rw [beq_iff_eq, ← BitVec.toNat_inj]
  simp

/-- Equal signs: both operands lie in the same half of the unsigned range. -/
theorem msb_eq_msb_iff (a b : BitVec w) : a.msb = b.msb ↔ (2 ^ (w - 1) ≤ a.toNat ↔ 2 ^ (w - 1) ≤ b.toNat) := by
  rw [BitVec.msb_eq_decide, BitVec.msb_eq_decide, decide_eq_decide]

theorem two_pow_eq_double (hw : 0 < w) : 2 ^ w = 2 * 2 ^ (w - 1) := by
  rw [← pow_succ', Nat.sub_add_cancel hw]

/-- The signed value by the half of the unsigned range. -/
theorem toInt_cases (a : BitVec w) (hw : 0 < w) :
    (a.toNat < 2 ^ (w - 1) ∧ a.toInt = a.toNat) ∨
      (2 ^ (w - 1) ≤ a.toNat ∧ a.toInt = a.toNat - 2 * (2 ^ (w - 1) : Nat)) := by
  have h2 := two_pow_eq_double hw
  rw [BitVec.toInt_eq_toNat_cond, h2]
  split <;> omega

/-! ### Addition (R503) -/

theorem toNat_addResult (a b : BitVec w) (c : Bool) :
    (addResult a b c).toNat = (a.toNat + b.toNat + c.toNat) % 2 ^ w := BitVec.toNat_ofNat ..

theorem addResult_false (a b : BitVec w) : addResult a b false = a + b := by
  simp [addResult, BitVec.ofNat_add]

/-- A sum of two operands and a carry leaves the range of `w` bits at most once. -/
theorem toNat_addResult_cases (a b : BitVec w) (c : Bool) :
    (a.toNat + b.toNat + c.toNat < 2 ^ w ∧ (addResult a b c).toNat = a.toNat + b.toNat + c.toNat) ∨
      (2 ^ w ≤ a.toNat + b.toNat + c.toNat ∧ (addResult a b c).toNat + 2 ^ w = a.toNat + b.toNat + c.toNat) := by
  have hc := Bool.toNat_le c
  rw [toNat_addResult]
  by_cases h : a.toNat + b.toNat + c.toNat < 2 ^ w
  · exact .inl ⟨h, Nat.mod_eq_of_lt h⟩
  · rw [Nat.mod_eq_sub_mod (by omega), Nat.mod_eq_of_lt (by omega)]
    omega

theorem addFlags_ofl_iff_msb (f : Flags) (a b : BitVec w) (c : Bool) :
    (addFlags f a b c).ofl = true ↔ a.msb = b.msb ∧ (addResult a b c).msb ≠ a.msb := by
  simp [addFlags, szp]

/-- OF of an addition says that the signed sum does not fit. -/
theorem addFlags_ofl_iff_range (f : Flags) (a b : BitVec w) (c : Bool) (hw : 0 < w) :
    (addFlags f a b c).ofl = true ↔
      a.toInt + b.toInt + c.toNat < -(2 ^ (w - 1)) ∨ 2 ^ (w - 1) - 1 < a.toInt + b.toInt + c.toNat := by
  have hp : (2 : Int) ^ (w - 1) = (2 ^ (w - 1) : Nat) := by push_cast; rfl
  have hc := Bool.toNat_le c
  have hsum := toNat_addResult_cases a b c
  have ha := toInt_cases a hw
  have hb := toInt_cases b hw
  have hal := a.isLt
  have hbl := b.isLt
  rw [two_pow_eq_double hw] at hsum hal hbl
  rw [addFlags_ofl_iff_msb, ne_eq, msb_eq_msb_iff, msb_eq_msb_iff, hp]
  omega

/-- Settles O10: the flags are those of the definition but for OF as a range, and ADD and ADC fix the carry in. -/
theorem additionCore : Obligations.AdditionCore := by
  refine fun w f a b c hw => ⟨⟨toNat_addResult a b c, decide_eq_true_iff, addFlags_ofl_iff_msb f a b c,
    addFlags_ofl_iff_range f a b c (by omega), decide_eq_true_iff, rfl, beq_zero_iff_toNat _, rfl, rfl, rfl, rfl⟩,
    rfl, rfl, rfl, rfl⟩

/-! ### Subtraction (R504, R512) -/

theorem toNat_subResult (a b : BitVec w) (c : Bool) :
    ((subResult a b c).toNat : Int) = ((a.toNat : Int) - b.toNat - c.toNat) % 2 ^ w := by
  have h : subResult a b c = BitVec.ofInt w ((a.toNat : Int) - b.toNat - c.toNat) := by
    simp [subResult, Int.sub_eq_add_neg, BitVec.sub_eq_add_neg, BitVec.ofInt_add, BitVec.ofInt_neg]
  rw [h, BitVec.toNat_ofInt, Int.toNat_of_nonneg (Int.emod_nonneg _ (by simp))]
  simp

theorem subResult_false (a b : BitVec w) : subResult a b false = a - b := by
  simp [subResult]

theorem subFlags_ofl_iff_msb (f : Flags) (a b : BitVec w) (c : Bool) :
    (subFlags f a b c).ofl = true ↔ a.msb ≠ b.msb ∧ (subResult a b c).msb ≠ a.msb := by
  simp [subFlags, szp]

/-- Settles O11: the difference as an integer; SUB, CMP and SBB fix the borrow in. -/
theorem subtractionCore : Obligations.SubtractionCore := by
  refine fun w f a b c _ => ⟨⟨toNat_subResult a b c, decide_eq_true_iff, subFlags_ofl_iff_msb f a b c,
    decide_eq_true_iff, rfl, beq_zero_iff_toNat _, rfl, rfl, rfl, rfl⟩, rfl, rfl, rfl, rfl, rfl⟩

theorem subResult_zero_left (a : BitVec w) : subResult 0 a false = -a := by
  rw [subResult_false, BitVec.ofNat_eq_ofNat, BitVec.zero_sub]

/-- Negation changes the sign of every value but 0 and the least one, which both keep it. -/
theorem neg_ofl_iff (f : Flags) (a : BitVec w) (hw : 0 < w) :
    (subFlags f 0 a false).ofl = true ↔ a.toNat = 2 ^ (w - 1) := by
  have h2 := two_pow_eq_double hw
  have ha := a.isLt
  have hpos := Nat.two_pow_pos (w - 1)
  rw [subFlags_ofl_iff_msb, subResult_zero_left, ne_eq, ne_eq, msb_eq_msb_iff, msb_eq_msb_iff, BitVec.toNat_neg,
    BitVec.ofNat_eq_ofNat, BitVec.toNat_zero]
  by_cases h0 : a.toNat = 0
  · rw [h0, Nat.sub_zero, Nat.mod_self]
    omega
  · rw [Nat.mod_eq_of_lt (by omega)]
    omega

/-- Settles O17: NEG subtracts from 0 (R512). -/
theorem negFlags : Obligations.NegFlags := by
  refine fun w f a hw => ⟨?_, neg_ofl_iff f a (by omega), ?_, ?_, ?_⟩
  · simp [subFlags, szp, Nat.pos_iff_ne_zero]
  · simp [subFlags, szp, Nat.pos_iff_ne_zero]
  · simp only [subFlags, szp, subResult_zero_left]
  · have hz : (subFlags f 0 a false).zf = (-a == 0) := congrArg (· == 0) (subResult_zero_left a)
    rw [hz, beq_iff_eq, BitVec.ofNat_eq_ofNat, BitVec.neg_eq_zero_iff, ← BitVec.toNat_inj, BitVec.toNat_zero]

/-! ### Addition undone (R526) -/

theorem subResult_addResult (a b : BitVec w) : subResult (addResult a b false) b false = a := by
  rw [addResult_false, subResult_false, BitVec.add_sub_cancel]

/-- The subtraction borrows where the addition carried. -/
theorem cf_sub_add (f : Flags) (a b : BitVec w) :
    (subFlags f (addResult a b false) b false).cf = (addFlags f a b false).cf := by
  have ha := a.isLt
  have hsum := toNat_addResult_cases a b false
  simp only [subFlags, addFlags, szp, decide_eq_decide]
  omega

/-- Both overflow where the operands have one sign and the sum the other. -/
theorem ofl_sub_add (f : Flags) (a b : BitVec w) :
    (subFlags f (addResult a b false) b false).ofl = (addFlags f a b false).ofl := by
  simp only [subFlags, addFlags, szp, subResult_addResult]
  cases a.msb <;> cases b.msb <;> cases (addResult a b false).msb <;> rfl

/-- Settles O13: what holds at every width, at the width of a word. -/
theorem addThenSubtract : Obligations.AddThenSubtract := fun f a b =>
  ⟨subResult_addResult a b, cf_sub_add f a b, ofl_sub_add f a b⟩

/-! ### Logic operations and parity (R501, R600) -/

/-- The flags of a logic operation, its result `r` (R600). -/
theorem logicFlags_fields (f : Flags) (r : BitVec w) :
    let g := logicFlags f r
    g.cf = false ∧ g.ofl = false ∧ g.sf = r.msb ∧ (g.zf = true ↔ r.toNat = 0) ∧ g.pf = parity (r.setWidth 8) ∧
      g.tf = f.tf ∧ g.ifl = f.ifl ∧ g.df = f.df :=
  ⟨rfl, rfl, rfl, beq_zero_iff_toNat r, rfl, rfl, rfl, rfl⟩

theorem parity_eq_count (b : Byte) :
    parity b = decide (((List.range 8).filter fun i => b.getLsbD i).length % 2 = 0) := by
  revert b
  decide

/-- Settles O12: the four operations share their flags. -/
theorem logicCore : Obligations.LogicCore := by
  refine ⟨fun w f a b _ => ⟨rfl, rfl, rfl, ?_⟩, parity_eq_count⟩
  rintro op r (⟨rfl, rfl⟩ | ⟨rfl, rfl⟩ | ⟨rfl, rfl⟩ | ⟨rfl, rfl⟩) <;> exact logicFlags_fields f _

end Sys2Proof.Proofs
end

section
/-! Every form of the binary ALU instructions, and INC, DEC, NEG and NOT (41_arithmetic.md R500, R505 to R512,
42_logic_shift.md R601 to R605). -/

namespace Sys2Proof.Proofs

open Sys2Proof Sys2Proof.Machine Sys2Proof.Laws

variable {s : State}

/-! ### The instruction of a form runs the operation of that form -/

theorem exec_instrEbGb (op : AluOp) (m : RM Reg8) (g : Reg8) (s : State) :
    exec (instrEbGb op m g) s = .next (aluEbGb op m g s) := by
  cases op <;> rfl

theorem exec_instrEwGw (op : AluOp) (m : RM Reg16) (g : Reg16) (s : State) :
    exec (instrEwGw op m g) s = .next (aluEwGw op m g s) := by
  cases op <;> rfl

theorem exec_instrEbIb (op : AluOp) (m : RM Reg8) (imm : Byte) (s : State) :
    exec (instrEbIb op m imm) s = .next (aluEbIb op m imm s) := by
  cases op <;> rfl

theorem exec_instrEwIw (op : AluOp) (m : RM Reg16) (imm : Word) (s : State) :
    exec (instrEwIw op m imm) s = .next (aluEwIw op m imm s) := by
  cases op <;> rfl

theorem exec_instrEwIbs {op : AluOp} {f : RM Reg16 → Byte → Instr} (h : instrEwIbs op = some f) (m : RM Reg16)
    (imm : Byte) (s : State) : exec (f m imm) s = .next (aluEwIw op m (imm.signExtend 16) s) := by
  cases op <;> cases h <;> rfl

theorem exec_instrALIb (op : AluOp) (imm : Byte) (s : State) :
    exec (instrALIb op imm) s = .next (aluALIb op imm s) := by
  cases op <;> rfl

theorem exec_instrAXIw (op : AluOp) (imm : Word) (s : State) :
    exec (instrAXIw op imm) s = .next (aluAXIw op imm s) := by
  cases op <;> rfl

theorem exec_instrGbEb {op : AluOp} {f : Reg8 → RM Reg8 → Instr} (h : instrGbEb op = some f) (g : Reg8) (m : RM Reg8)
    (s : State) : exec (f g m) s = .next (aluGbEb op g m s) := by
  cases op <;> cases h <;> rfl

theorem exec_instrGwEw {op : AluOp} {f : Reg16 → RM Reg16 → Instr} (h : instrGwEw op = some f) (g : Reg16)
    (m : RM Reg16) (s : State) : exec (f g m) s = .next (aluGwEw op g m s) := by
  cases op <;> cases h <;> rfl

theorem exec_instrInc (r : Reg16) (s : State) : exec (instrInc r) s = .next (inc16 (.reg r) s) := by
  cases r <;> rfl

theorem exec_instrDec (r : Reg16) (s : State) : exec (instrDec r) s = .next (dec16 (.reg r) s) := by
  cases r <;> rfl

/-! ### The binary operations -/

/-- Settles O14: a form with E as destination is `aluRM8` with its source, and the read of E leaves the source alone. -/
theorem aluBytes : Obligations.AluBytes := by
  refine fun op s h => ⟨fun m g => ⟨_, exec_instrEbGb .., aluRM8_done op m (·.reg8 g) h ?_⟩,
    fun m imm => ⟨_, exec_instrEbIb .., aluRM8_done op m _ h rfl⟩,
    fun imm => ⟨_, exec_instrALIb .., aluRM8_done op (.reg .al) _ h rfl⟩,
    fun f hf g m => ⟨_, exec_instrGbEb hf .., aluGbEb_done op g m h⟩⟩
  exact congrArg (·.get8 g) (readOnly_readRM8 s m).regs

/-- Settles O15, as for bytes. -/
theorem aluWords : Obligations.AluWords := by
  refine fun op s h => ⟨fun m g => ⟨_, exec_instrEwGw .., aluRM16_done op m (·.reg16 g) h ?_⟩,
    fun m imm => ⟨_, exec_instrEwIw .., aluRM16_done op m _ h rfl⟩,
    fun f hf m imm => ⟨_, exec_instrEwIbs hf .., aluRM16_done op m _ h rfl⟩,
    fun imm => ⟨_, exec_instrAXIw .., aluRM16_done op (.reg .ax) _ h rfl⟩,
    fun f hf g m => ⟨_, exec_instrGwEw hf .., aluGwEw_done op g m h⟩⟩
  exact congrArg (·.get g) (readOnly_readRM16 s m).regs

/-! ### The unary operations -/

theorem inc8_done (h : s.MemOk) (m : RM Reg8) :
    SameCore s (inc8 m s) ∧ Wrote8 s (inc8 m s) m ((s.readRM8 m).1 + 1) ∧
      (inc8 m s).flags = incFlags s.flags (s.readRM8 m).1 := by
  rw [← addResult_false]
  exact unaryRM8_done (fun a => addResult a 1 false) incFlags m h

theorem inc16_done (h : s.MemOk) (m : RM Reg16) :
    SameCore s (inc16 m s) ∧ Wrote16 s (inc16 m s) m ((s.readRM16 m).1 + 1) ∧
      (inc16 m s).flags = incFlags s.flags (s.readRM16 m).1 := by
  rw [← addResult_false]
  exact unaryRM16_done (fun a => addResult a 1 false) incFlags m h

theorem dec8_done (h : s.MemOk) (m : RM Reg8) :
    SameCore s (dec8 m s) ∧ Wrote8 s (dec8 m s) m ((s.readRM8 m).1 - 1) ∧
      (dec8 m s).flags = decFlags s.flags (s.readRM8 m).1 := by
  rw [← subResult_false]
  exact unaryRM8_done (fun a => subResult a 1 false) decFlags m h

theorem dec16_done (h : s.MemOk) (m : RM Reg16) :
    SameCore s (dec16 m s) ∧ Wrote16 s (dec16 m s) m ((s.readRM16 m).1 - 1) ∧
      (dec16 m s).flags = decFlags s.flags (s.readRM16 m).1 := by
  rw [← subResult_false]
  exact unaryRM16_done (fun a => subResult a 1 false) decFlags m h

theorem neg8_done (h : s.MemOk) (m : RM Reg8) :
    SameCore s (neg8 m s) ∧ Wrote8 s (neg8 m s) m (-(s.readRM8 m).1) ∧
      (neg8 m s).flags = subFlags s.flags 0 (s.readRM8 m).1 false := by
  rw [← subResult_zero_left]
  exact unaryRM8_done (fun a => subResult 0 a false) (fun f a => subFlags f 0 a false) m h

theorem neg16_done (h : s.MemOk) (m : RM Reg16) :
    SameCore s (neg16 m s) ∧ Wrote16 s (neg16 m s) m (-(s.readRM16 m).1) ∧
      (neg16 m s).flags = subFlags s.flags 0 (s.readRM16 m).1 false := by
  rw [← subResult_zero_left]
  exact unaryRM16_done (fun a => subResult 0 a false) (fun f a => subFlags f 0 a false) m h

/-- Settles O16: INC and DEC of a word register are those of that register as E. -/
theorem unaryOperations : Obligations.UnaryOperations := fun _ h =>
  ⟨fun m => ⟨⟨_, rfl, inc8_done h m⟩, ⟨_, rfl, dec8_done h m⟩, ⟨_, rfl, neg8_done h m⟩,
      ⟨_, rfl, unaryRM8_done _ _ m h⟩⟩,
    fun m => ⟨⟨_, rfl, inc16_done h m⟩, ⟨_, rfl, dec16_done h m⟩, ⟨_, rfl, neg16_done h m⟩,
      ⟨_, rfl, unaryRM16_done _ _ m h⟩⟩,
    fun r => ⟨⟨_, exec_instrInc .., inc16_done h (.reg r)⟩, ⟨_, exec_instrDec .., dec16_done h (.reg r)⟩⟩⟩

end Sys2Proof.Proofs
end

section
/-! What arithmetic writes of the general registers and flags, with the flags it leaves free; multiplication
(41_arithmetic.md R513, R514). -/

namespace Sys2Proof.Proofs

open Sys2Proof Sys2Proof.Machine Sys2Proof.Laws

variable {s u : State}

/-! ### Free flags -/

/-- A draw leaves every other flag alone. -/
theorem flagsButFor_drawFlag (s : State) (n : Flag) : FlagsButFor (s.drawFlag n).flags s.flags [n] := by
  cases n <;> simp [FlagsButFor, State.drawFlag]

theorem FlagsButFor.trans {f g h : Flags} {l k : List Flag} (hfg : FlagsButFor f g l) (hgh : FlagsButFor g h k) :
    FlagsButFor f h (l ++ k) := by
  obtain ⟨c, p, a, z, n, o, t, i, d⟩ := hfg
  obtain ⟨c', p', a', z', n', o', t', i', d'⟩ := hgh
  simp only [FlagsButFor, List.mem_append, not_or]
  exact ⟨fun m => (c m.1).trans (c' m.2), fun m => (p m.1).trans (p' m.2), fun m => (a m.1).trans (a' m.2),
    fun m => (z m.1).trans (z' m.2), fun m => (n m.1).trans (n' m.2), fun m => (o m.1).trans (o' m.2), t.trans t',
    i.trans i', d.trans d'⟩

theorem FlagsButFor.mono {f g : Flags} {l k : List Flag} (h : FlagsButFor f g l) (hl : l ⊆ k) : FlagsButFor f g k := by
  obtain ⟨c, p, a, z, n, o, rest⟩ := h
  exact ⟨fun m => c (m <| hl ·), fun m => p (m <| hl ·), fun m => a (m <| hl ·), fun m => z (m <| hl ·),
    fun m => n (m <| hl ·), fun m => o (m <| hl ·), rest⟩

theorem flagsButFor_drawFlags (s : State) (l : List Flag) : FlagsButFor (s.drawFlags l).flags s.flags l := by
  induction l generalizing s with
  | nil => exact ⟨fun _ => rfl, fun _ => rfl, fun _ => rfl, fun _ => rfl, fun _ => rfl, fun _ => rfl, rfl, rfl, rfl⟩
  | cons n l ih =>
    refine FlagsButFor.mono (FlagsButFor.trans (ih (s.drawFlag n)) (flagsButFor_drawFlag s n)) fun m hm => ?_
    simpa [or_comm] using hm

/-- Flags written and then some of them drawn, where before registers at most were written. -/
theorem onlyRegsAndFlags_drawFlags (c : SameCore s u) (hm : u.mem = s.mem) (l : List Flag) :
    OnlyRegsAndFlags s (u.drawFlags l) u.flags l :=
  ⟨SameCore.trans c (sameCore_drawFlags ..), fun a => by rw [drawFlags_mem, hm], flagsButFor_drawFlags ..⟩

theorem onlyRegsAndFlags_setFlags_drawFlags (c : SameCore s u) (hm : u.mem = s.mem) (f : Flags) (l : List Flag) :
    OnlyRegsAndFlags s ((u.setFlags f).drawFlags l) f l :=
  onlyRegsAndFlags_drawFlags (SameCore.trans c (sameCore_setFlags u f)) hm l

/-- Flags that were written may count as free. -/
theorem OnlyRegsAndFlags.free {t : State} {f g : Flags} {l k n : List Flag} (h : OnlyRegsAndFlags s t f l)
    (hf : FlagsButFor f g k) (hn : l ++ k ⊆ n) : OnlyRegsAndFlags s t g n := by
  obtain ⟨core, mem, flags⟩ := h
  exact ⟨core, mem, FlagsButFor.mono (FlagsButFor.trans flags hf) hn⟩

/-! ### DX:AX -/

/-- DX and AX written, in either order, after steps that touched no register. -/
theorem onlyDXAX_of_regs {t : State} {d a : Word} (hu : u.regs = s.regs)
    (ht : t.regs = (u.regs.set .dx d).set .ax a) :
    t.regs.dx = d ∧ t.regs.ax = a ∧ ∀ q, q ≠ .ax → q ≠ .dx → t.reg16 q = s.reg16 q := by
  rw [hu] at ht
  refine ⟨by rw [ht]; rfl, by rw [ht]; rfl, fun q ha hd => ?_⟩
  rw [State.reg16, ht, regs_get_set_ne _ _ ha, regs_get_set_ne _ _ hd]
  rfl

theorem toNat_append_word (d a : Word) : (d ++ a).toNat = d.toNat * 2 ^ 16 + a.toNat := by
  rw [BitVec.toNat_append, ← Nat.shiftLeft_add_eq_or_of_lt a.isLt, Nat.shiftLeft_eq]

theorem high_append_low (p : BitVec 32) : p.extractLsb' 16 16 ++ p.extractLsb' 0 16 = p := by
  rw [BitVec.extractLsb'_append_extractLsb'_eq_extractLsb' (start₁ := 0) (len₁ := 16) rfl]
  exact BitVec.extractLsb'_eq_self

/-! ### Products -/

theorem toNat_setWidth_mul {w v : Nat} (hv : v = w + w) (a b : BitVec w) :
    (a.setWidth v * b.setWidth v).toNat = a.toNat * b.toNat := by
  have h : a.toNat * b.toNat < 2 ^ v := by
    rw [hv, pow_add]
    exact Nat.mul_lt_mul'' a.isLt b.isLt
  have ha : (a.setWidth v).toNat = a.toNat := BitVec.toNat_setWidth_of_le (hv ▸ Nat.le_add_left ..)
  have hb : (b.setWidth v).toNat = b.toNat := BitVec.toNat_setWidth_of_le (hv ▸ Nat.le_add_left ..)
  rw [BitVec.toNat_mul_of_lt (by rwa [ha, hb]), ha, hb]

theorem toInt_signExtend_mul {w v : Nat} (hw : 0 < w) (hv : v = w + w) (a b : BitVec w) :
    (a.signExtend v * b.signExtend v).toInt = a.toInt * b.toInt := by
  have hle := BitVec.toInt_mul_toInt_le (x := a) (y := b)
  have hge := BitVec.le_toInt_mul_toInt (x := a) (y := b)
  have h2 : (2 : Int) ^ v = 4 * 2 ^ (w * 2 - 2) := by
    rw [hv, show w + w = 2 + (w * 2 - 2) by omega, pow_add]
    rfl
  rw [BitVec.toInt_mul, BitVec.toInt_signExtend_of_le (by omega), BitVec.toInt_signExtend_of_le (by omega)]
  have hp : (0 : Int) < 2 ^ (w * 2 - 2) := by positivity
  exact Int.bmod_eq_of_le (by push_cast; omega) (by push_cast; omega)

/-! ### MUL and IMUL -/

/-- CF and OF of a multiplication are `c`, the other arithmetic flags free. -/
theorem mulFlags_done (c : SameCore s u) (hm : u.mem = s.mem) (hf : u.flags = s.flags) (b : Bool) :
    let t := u.mulFlags b
    t.flags.cf = b ∧ t.flags.ofl = t.flags.cf ∧ OnlyRegsAndFlags s t s.flags [.cf, .ofl, .sf, .zf, .af, .pf] := by
  have hw : FlagsButFor { u.flags with cf := b, ofl := b } s.flags [.cf, .ofl] := by simp [FlagsButFor, hf]
  exact ⟨rfl, rfl, OnlyRegsAndFlags.free (onlyRegsAndFlags_setFlags_drawFlags c hm _ _) hw (by decide)⟩

/-- A byte multiplication with product `p`: `sig` tells of a product whether its upper half is significant. -/
theorem mulAX_done (ro : ReadOnly s u) (p : Word) (sig : Word → Bool) :
    let t := (u.setReg16 .ax p).mulFlags (sig p)
    t.regs.ax = p ∧ (∀ q, q ≠ .ax → t.reg16 q = s.reg16 q) ∧ t.flags.cf = sig t.regs.ax ∧
      t.flags.ofl = t.flags.cf ∧ OnlyRegsAndFlags s t s.flags [.cf, .ofl, .sf, .zf, .af, .pf] := by
  have c : SameCore s (u.setReg16 .ax p) := SameCore.trans ro.sameCore (sameCore_setReg16 ..)
  obtain ⟨hax, hq⟩ : OnlyReg16 s ((u.setReg16 .ax p).mulFlags (sig p)) .ax p := onlyReg16_of_regs ro.regs rfl
  exact ⟨hax, hq, congrArg sig hax.symm, (mulFlags_done c ro.mem ro.flags (sig p)).2⟩

/-- A word multiplication with product `p`. -/
theorem mulDXAX_done (ro : ReadOnly s u) (p : BitVec 32) (sig : BitVec 32 → Bool) :
    let t := (u.setDXAX p).mulFlags (sig p)
    t.regs.dx ++ t.regs.ax = p ∧ (∀ q, q ≠ .ax → q ≠ .dx → t.reg16 q = s.reg16 q) ∧
      t.flags.cf = sig (t.regs.dx ++ t.regs.ax) ∧ t.flags.ofl = t.flags.cf ∧
        OnlyRegsAndFlags s t s.flags [.cf, .ofl, .sf, .zf, .af, .pf] := by
  have c : SameCore s (u.setDXAX p) :=
    SameCore.trans (SameCore.trans ro.sameCore (sameCore_setReg16 ..)) (sameCore_setReg16 ..)
  obtain ⟨hdx, hax, hq⟩ := onlyDXAX_of_regs (t := (u.setDXAX p).mulFlags (sig p)) ro.regs rfl
  have hp : ((u.setDXAX p).mulFlags (sig p)).regs.dx ++ ((u.setDXAX p).mulFlags (sig p)).regs.ax = p := by
    rw [hdx, hax, high_append_low]
  exact ⟨hp, hq, congrArg sig hp.symm, (mulFlags_done c ro.mem ro.flags (sig p)).2⟩

theorem bne_eq_decide_ne {w : Nat} (a b : BitVec w) : (a != b) = decide (a ≠ b) := by
  rw [Bool.eq_iff_iff, bne_iff_ne, decide_eq_true_iff]

/-- Settles O27: the products fit in twice the width, and DX and AX are the halves of a word product. -/
theorem multiplication : Obligations.Multiplication := by
  refine fun s => ⟨fun m => ⟨_, rfl, ?_⟩, fun m => ⟨_, rfl, ?_⟩, fun m => ⟨_, rfl, ?_⟩, fun m => ⟨_, rfl, ?_⟩⟩
  · obtain ⟨hp, hq, hcf, rest⟩ := mulAX_done (readOnly_readRM8 s m) (zext16 (s.reg8 .al) * zext16 (s.readRM8 m).1)
      (hiByte · != 0)
    exact ⟨(congrArg BitVec.toNat hp).trans (toNat_setWidth_mul rfl ..), hq, hcf.trans (bne_eq_decide_ne ..), rest⟩
  · obtain ⟨hp, hq, hcf, rest⟩ := mulDXAX_done (readOnly_readRM16 s m)
      (s.regs.ax.setWidth 32 * (s.readRM16 m).1.setWidth 32) (·.extractLsb' 16 16 != 0)
    rw [BitVec.extractLsb'_append_eq_left] at hcf
    rw [← toNat_append_word]
    exact ⟨(congrArg BitVec.toNat hp).trans (toNat_setWidth_mul rfl ..), hq, hcf.trans (bne_eq_decide_ne ..), rest⟩
  · obtain ⟨hp, hq, hcf, rest⟩ := mulAX_done (readOnly_readRM8 s m) (sext16 (s.reg8 .al) * sext16 (s.readRM8 m).1)
      (fun p => p != sext16 (loByte p))
    exact ⟨(congrArg BitVec.toInt hp).trans (toInt_signExtend_mul (by decide) rfl ..), hq,
      hcf.trans (bne_eq_decide_ne ..), rest⟩
  · obtain ⟨hp, hq, hcf, rest⟩ := mulDXAX_done (readOnly_readRM16 s m)
      (s.regs.ax.signExtend 32 * (s.readRM16 m).1.signExtend 32) (fun p => p != (p.extractLsb' 0 16).signExtend 32)
    rw [BitVec.extractLsb'_append_eq_right] at hcf
    exact ⟨(congrArg BitVec.toInt hp).trans (toInt_signExtend_mul (by decide) rfl ..), hq,
      hcf.trans (bne_eq_decide_ne ..), rest⟩

end Sys2Proof.Proofs
end

section
/-! Division: quotients and remainders, and the divide errors of DIV, IDIV and AAM (41_arithmetic.md R515, R516, R521,
60_exceptions.md R1010 to R1012). -/

namespace Sys2Proof.Proofs

open Sys2Proof Sys2Proof.Machine Sys2Proof.Laws

variable {s u : State} {w : Nat}

/-! ### Quotients and remainders -/

/-- An unsigned division whose quotient fits: the remainder, less than the divisor, fits as well. -/
theorem divide_some {n : Nat} {d : BitVec w} (hd : d.toNat ≠ 0) (hq : n / d.toNat < 2 ^ w) :
    ∃ q r : BitVec w, divide w n d.toNat = some (q, r) ∧ q.toNat = n / d.toNat ∧ r.toNat = n % d.toNat := by
  have hr : n % d.toNat < 2 ^ w := (Nat.mod_lt _ (Nat.pos_of_ne_zero hd)).trans d.isLt
  refine ⟨BitVec.ofNat w (n / d.toNat), BitVec.ofNat w (n % d.toNat), by rw [divide, if_neg hd, if_pos hq], ?_, ?_⟩
  · rw [BitVec.toNat_ofNat, Nat.mod_eq_of_lt hq]
  · rw [BitVec.toNat_ofNat, Nat.mod_eq_of_lt hr]

theorem divide_none {n : Nat} {d : BitVec w} (h : d = 0 ∨ 2 ^ w ≤ n / d.toNat) : divide w n d.toNat = none := by
  unfold divide
  rcases h with rfl | h
  · simp
  · rw [if_neg (Nat.not_lt.mpr h), ite_self]

/-- A remainder rounded toward zero is smaller than the divisor, and so fits the divisor's width. -/
theorem tmod_range (n : Int) {d : BitVec w} (hd : d.toInt ≠ 0) :
    -(2 ^ (w - 1)) < n.tmod d.toInt ∧ n.tmod d.toInt < 2 ^ (w - 1) := by
  have hlt := d.toInt_lt
  have hle := d.le_toInt
  have hr : (n.tmod d.toInt).natAbs < d.toInt.natAbs := by
    rw [Int.natAbs_tmod]
    exact Nat.mod_lt _ (Int.natAbs_pos.mpr hd)
  omega

/-- A signed division whose quotient fits. -/
theorem signedDivide_some {n : Int} {d : BitVec w} (hw : 0 < w) (hd : d.toInt ≠ 0)
    (hlo : -(2 ^ (w - 1)) < n.tdiv d.toInt) (hhi : n.tdiv d.toInt < 2 ^ (w - 1)) :
    ∃ q r : BitVec w, signedDivide w n d.toInt = some (q, r) ∧ q.toInt = n.tdiv d.toInt ∧ r.toInt = n.tmod d.toInt := by
  obtain ⟨hrlo, hrhi⟩ := tmod_range n hd
  have hm : n - n.tdiv d.toInt * d.toInt = n.tmod d.toInt := by rw [Int.tmod_def, Int.mul_comm]
  exact ⟨_, _, by rw [signedDivide, if_neg hd, if_pos ⟨hhi, hlo⟩, hm],
    BitVec.toInt_ofInt_eq_self hw hlo.le hhi, BitVec.toInt_ofInt_eq_self hw hrlo.le hrhi⟩

theorem signedDivide_none {n : Int} {d : BitVec w}
    (h : d = 0 ∨ n.tdiv d.toInt ≤ -(2 ^ (w - 1)) ∨ 2 ^ (w - 1) ≤ n.tdiv d.toInt) :
    signedDivide w n d.toInt = none := by
  unfold signedDivide
  rcases h with rfl | h
  · simp
  · have hq : ¬(n.tdiv d.toInt < 2 ^ (w - 1) ∧ -(2 ^ (w - 1)) < n.tdiv d.toInt) := by omega
    rw [if_neg hq, ite_self]

/-! ### DIV and IDIV without an error -/

theorem onlyRegsAndFlags_allFlags (c : SameCore s u) (hm : u.mem = s.mem) (hf : u.flags = s.flags) :
    OnlyRegsAndFlags s (u.drawFlags allFlags) s.flags [.cf, .ofl, .sf, .zf, .af, .pf] := by
  obtain ⟨core, mem, flags⟩ := onlyRegsAndFlags_drawFlags c hm allFlags
  exact ⟨core, mem, hf ▸ FlagsButFor.mono flags (by decide)⟩

theorem finishDivide8_some (ro : ReadOnly s u) (q r : Byte) :
    let t := u.finishDivide8 (some (q, r))
    t.reg8 .al = q ∧ t.reg8 .ah = r ∧ (∀ k, k ≠ .ax → t.reg16 k = s.reg16 k) ∧
      OnlyRegsAndFlags s t s.flags [.cf, .ofl, .sf, .zf, .af, .pf] := by
  obtain ⟨hax, hk⟩ : OnlyReg16 s (u.finishDivide8 (some (q, r))) .ax (wordOf q r) := onlyReg16_of_regs ro.regs rfl
  exact ⟨(congrArg loByte hax).trans (loByte_wordOf q r), (congrArg hiByte hax).trans (hiByte_wordOf q r), hk,
    onlyRegsAndFlags_allFlags (SameCore.trans ro.sameCore (sameCore_setReg16 ..)) ro.mem ro.flags⟩

theorem finishDivide16_some (ro : ReadOnly s u) (q r : Word) :
    let t := u.finishDivide16 (some (q, r))
    t.regs.ax = q ∧ t.regs.dx = r ∧ (∀ k, k ≠ .ax → k ≠ .dx → t.reg16 k = s.reg16 k) ∧
      OnlyRegsAndFlags s t s.flags [.cf, .ofl, .sf, .zf, .af, .pf] := by
  obtain ⟨hdx, hax, hk⟩ := onlyDXAX_of_regs (t := u.finishDivide16 (some (q, r))) (d := r) (a := q) ro.regs rfl
  exact ⟨hax, hdx, hk, onlyRegsAndFlags_allFlags
    (SameCore.trans (SameCore.trans ro.sameCore (sameCore_setReg16 ..)) (sameCore_setReg16 ..)) ro.mem ro.flags⟩

/-- Settles O28: the quotient and the remainder fit the halves of AX, or AX and DX. -/
theorem divisionResults : Obligations.DivisionResults := by
  refine ⟨fun s => ⟨fun m hd hq => ⟨_, rfl, ?_⟩, fun m hd hq => ⟨_, rfl, ?_⟩⟩,
    fun s => ⟨fun m hd hlo hhi => ⟨_, rfl, ?_⟩, fun m hd hlo hhi => ⟨_, rfl, ?_⟩⟩⟩
  · obtain ⟨q, r, he, hq, hr⟩ := divide_some hd (Nat.lt_succ_of_le hq)
    obtain ⟨hal, hah, rest⟩ := finishDivide8_some (readOnly_readRM8 s m) q r
    rw [div8, he, hal, hah]
    exact ⟨hq, hr, rest⟩
  · rw [← toNat_append_word] at hq ⊢
    obtain ⟨q, r, he, hq, hr⟩ := divide_some hd (Nat.lt_succ_of_le hq)
    obtain ⟨hax, hdx, rest⟩ := finishDivide16_some (readOnly_readRM16 s m) q r
    rw [div16, State.dxax, he, hax, hdx]
    exact ⟨hq, hr, rest⟩
  · obtain ⟨q, r, he, hq, hr⟩ := signedDivide_some (n := s.regs.ax.toInt) (by decide) hd (by omega) (by omega)
    obtain ⟨hal, hah, rest⟩ := finishDivide8_some (readOnly_readRM8 s m) q r
    rw [idiv8, he, hal, hah]
    exact ⟨hq, hr, rest⟩
  · obtain ⟨q, r, he, hq, hr⟩ :=
      signedDivide_some (n := (s.regs.dx ++ s.regs.ax).toInt) (by decide) hd (by omega) (by omega)
    obtain ⟨hax, hdx, rest⟩ := finishDivide16_some (readOnly_readRM16 s m) q r
    rw [idiv16, State.dxax, he, hax, hdx]
    exact ⟨hq, hr, rest⟩

/-! ### Divide errors -/

/-- Interrupt 0 is entered from a state in which the registers of `written` and the arithmetic flags are free. -/
def DivideError (s t : State) (written : List Reg16) : Prop :=
  ∃ u, SameCore s u ∧ MemSame s u ∧ (∀ q, q ∉ written → u.reg16 q = s.reg16 q) ∧
    FlagsButFor u.flags s.flags allFlags ∧ u.MemOk ∧ Entered u t 0 s.ip ∧
      EntryLatches u t (s.eu.trapArmed && s.cfg.trapAfterSoftInt) s.eu.lockActive

/-- The flags are drawn and then interrupt 0 entered, with the offset after the instruction. -/
theorem divideError_drawFlags (h : s.MemOk) (c : SameCore s u) (hm : u.mem = s.mem) (hf : u.flags = s.flags)
    {written : List Reg16} (hr : ∀ q, q ∉ written → u.reg16 q = s.reg16 q) :
    DivideError s ((u.drawFlags allFlags).softInterrupt 0) written := by
  obtain ⟨core, mem, flags⟩ := onlyRegsAndFlags_drawFlags c hm allFlags
  have hok : (u.drawFlags allFlags).MemOk := MemOk.of_mem h ((drawFlags_mem ..).trans hm)
  obtain ⟨entered, latches⟩ := entered_softInterrupt hok 0
  have ⟨⟨hcfg, _⟩, _, hip, heu, _⟩ := core
  rw [hip] at entered
  rw [heu, hcfg] at latches
  refine ⟨u.drawFlags allFlags, core, mem, fun q hq => ?_, hf ▸ flags, hok, entered, latches⟩
  exact (congrArg (·.get q) (drawFlags_regs u allFlags)).trans (hr q hq)

theorem sameCore_drawReg16 (s : State) (r : Reg16) : SameCore s (s.drawReg16 r) :=
  ⟨⟨rfl, rfl, rfl, rfl, rfl, rfl, List.prefix_refl _⟩, rfl, rfl, rfl, rfl⟩

theorem finishDivide8_none (h : s.MemOk) (ro : ReadOnly s u) : DivideError s (u.finishDivide8 none) [.ax] := by
  obtain ⟨-, hq⟩ : OnlyReg16 s (u.drawReg16 .ax) .ax (Config.freeWord u.draws) := onlyReg16_of_regs ro.regs rfl
  exact divideError_drawFlags h (SameCore.trans ro.sameCore (sameCore_drawReg16 ..)) ro.mem ro.flags
    fun q hn => hq q (by simpa using hn)

theorem finishDivide16_none (h : s.MemOk) (ro : ReadOnly s u) :
    DivideError s (u.finishDivide16 none) [.ax, .dx] := by
  obtain ⟨-, -, hq⟩ := onlyDXAX_of_regs (t := (u.drawReg16 .ax).drawReg16 .dx) ro.regs rfl
  refine divideError_drawFlags h
    (SameCore.trans (SameCore.trans ro.sameCore (sameCore_drawReg16 ..)) (sameCore_drawReg16 ..)) ro.mem ro.flags
    fun q hn => ?_
  obtain ⟨ha, hd⟩ : q ≠ .ax ∧ q ≠ .dx := by simpa using hn
  exact hq q ha hd

/-- Settles O29: a quotient out of range, or a divisor 0, is no quotient, and AAM with base 0 writes no register. -/
theorem divideErrors : Obligations.DivideErrors := by
  rintro s i written h (⟨m, ⟨rfl, he, rfl⟩ | ⟨rfl, he, rfl⟩⟩ | ⟨m, ⟨rfl, he, rfl⟩ | ⟨rfl, he, rfl⟩⟩ | ⟨rfl, rfl⟩) <;>
    refine ⟨_, rfl, ?_⟩
  · rw [div8, divide_none (he.imp_right Nat.succ_le_of_lt)]
    exact finishDivide8_none h (readOnly_readRM8 s m)
  · rw [idiv8, signedDivide_none (he.imp_right (Or.imp Int.le_sub_one_of_lt Int.add_one_le_of_lt))]
    exact finishDivide8_none h (readOnly_readRM8 s m)
  · rw [← toNat_append_word] at he
    rw [div16, State.dxax, divide_none (he.imp_right Nat.succ_le_of_lt)]
    exact finishDivide16_none h (readOnly_readRM16 s m)
  · rw [idiv16, State.dxax, signedDivide_none (he.imp_right (Or.imp Int.le_sub_one_of_lt Int.add_one_le_of_lt))]
    exact finishDivide16_none h (readOnly_readRM16 s m)
  · exact divideError_drawFlags h (ReadOnly.refl s).sameCore rfl rfl fun _ _ => rfl

end Sys2Proof.Proofs
end

section
/-! The decimal adjustments AAA, AAS, DAA, DAS, AAM and AAD (41_arithmetic.md R517 to R522). -/

namespace Sys2Proof.Proofs

open Sys2Proof Sys2Proof.Machine Sys2Proof.Laws

/-! ### When a digit is adjusted -/

theorem lowAdjust_eq (s : State) : s.lowAdjust = (decide (9 < (s.reg8 .al).toNat % 16) || s.flags.af) := by
  have h : (s.reg8 .al &&& 0x0F).toNat = (s.reg8 .al).toNat % 16 := Nat.and_two_pow_sub_one_eq_mod _ 4
  rw [← h]
  rfl

theorem highAdjust_eq (s : State) : s.highAdjust = (decide (0x99 < (s.reg8 .al).toNat) || s.flags.cf) := rfl

/-! ### What an adjustment writes -/

/-- AX and flags written, then flags drawn. -/
theorem adjustAX_done (s : State) (v : Word) (f : Flags) (l : List Flag) :
    let t := ((s.setReg16 .ax v).setFlags f).drawFlags l
    OnlyReg16 s t .ax v ∧ OnlyRegsAndFlags s t f l :=
  ⟨onlyReg16_of_regs rfl (drawFlags_regs ..), onlyRegsAndFlags_setFlags_drawFlags (sameCore_setReg16 ..) rfl f l⟩

/-- AL and flags written, then OF drawn. -/
theorem adjustAL_done (s : State) (v : Byte) (f : Flags) :
    let t := ((s.setReg8 .al v).setFlags f).drawFlag .ofl
    OnlyReg8 s t .al v ∧ OnlyRegsAndFlags s t f [.ofl] :=
  ⟨onlyReg8_of_regs rfl rfl, onlyRegsAndFlags_setFlags_drawFlags (sameCore_setReg8 ..) rfl f [.ofl]⟩

/-- AAM and AAD: both halves of AX written, and flags by its low half. -/
theorem adjustHalves_done (s : State) (lo hi : Byte) :
    let t := ((s.setReg16 .ax (wordOf lo hi)).setFlags (szp s.flags lo)).drawFlags [.ofl, .af, .cf]
    t.reg8 .al = lo ∧ t.reg8 .ah = hi ∧ (∀ q, q ≠ .ax → t.reg16 q = s.reg16 q) ∧
      OnlyRegsAndFlags s t (szp s.flags (t.reg8 .al)) [.ofl, .af, .cf] := by
  obtain ⟨⟨hax, hq⟩, hf⟩ := adjustAX_done s (wordOf lo hi) (szp s.flags lo) [.ofl, .af, .cf]
  have hal := (congrArg loByte hax).trans (loByte_wordOf lo hi)
  refine ⟨hal, (congrArg hiByte hax).trans (hiByte_wordOf lo hi), hq, ?_⟩
  rw [show State.reg8 _ .al = lo from hal]
  exact hf

/-! ### The instructions -/

/-- An adjustment made or not is the addition of its amount or of 0. -/
theorem ite_add_else (c : Bool) (a b : Byte) : (if c then a + b else a) = a + if c then b else 0 := by
  cases c
  · exact (BitVec.add_zero a).symm
  · rfl

theorem ite_sub_else (c : Bool) (a b : Byte) : (if c then a - b else a) = a - if c then b else 0 := by
  cases c
  · exact (BitVec.sub_zero a).symm
  · rfl

theorem daa_eq (s : State) :
    let r := s.reg8 .al + (if s.lowAdjust then 0x06 else 0) + (if s.highAdjust then 0x60 else 0)
    s.daa = ((s.setReg8 .al r).setFlags
      (szp { s.flags with af := s.lowAdjust, cf := s.highAdjust } r)).drawFlag .ofl := by
  simp only [State.daa, ite_add_else]

theorem das_eq (s : State) :
    let r := s.reg8 .al - (if s.lowAdjust then 0x06 else 0) - (if s.highAdjust then 0x60 else 0)
    let borrow := s.lowAdjust && (s.flags.cf || decide (s.reg8 .al < 6))
    s.das = ((s.setReg8 .al r).setFlags
      (szp { s.flags with af := s.lowAdjust, cf := s.highAdjust || borrow } r)).drawFlag .ofl := by
  simp only [State.das, ite_sub_else]

/-- Settles O30: AAA and AAS write AX by the low digit, DAA and DAS write AL by both, AAM and AAD write the halves of
AX. -/
theorem decimalAdjust : Obligations.DecimalAdjust := by
  refine fun s => ⟨⟨_, rfl, ?_⟩, ⟨_, rfl, ?_⟩, ⟨_, rfl, ?_⟩, ⟨_, rfl, ?_⟩, fun imm hi => ⟨_, rfl, ?_⟩,
    fun imm => ⟨_, rfl, ?_⟩⟩
  · rw [← lowAdjust_eq, State.aaa]
    cases s.lowAdjust <;> exact adjustAX_done ..
  · rw [← lowAdjust_eq, State.aas]
    cases s.lowAdjust <;> exact adjustAX_done ..
  · rw [← lowAdjust_eq, ← highAdjust_eq, daa_eq]
    exact adjustAL_done ..
  · rw [← lowAdjust_eq, ← highAdjust_eq, das_eq]
    exact adjustAL_done ..
  · obtain ⟨hal, hah, rest⟩ := adjustHalves_done s (s.reg8 .al % imm) (s.reg8 .al / imm)
    rw [State.aam, if_neg hi]
    exact ⟨(congrArg BitVec.toNat hah).trans BitVec.toNat_udiv,
      (congrArg BitVec.toNat hal).trans BitVec.toNat_umod, rest⟩
  · obtain ⟨hal, hah, rest⟩ := adjustHalves_done s (s.reg8 .al + s.reg8 .ah * imm) 0
    refine ⟨(congrArg BitVec.toNat hal).trans ?_, hah, rest⟩
    rw [BitVec.toNat_add, BitVec.toNat_mul, Nat.add_mod_mod]

end Sys2Proof.Proofs
end

section
/-! The shifts and rotates: every form of them, and what n of their bit steps come to, for every width
(42_logic_shift.md R606 to R614). -/

namespace Sys2Proof.Proofs

open Sys2Proof Sys2Proof.Machine Sys2Proof.Laws

/-! ### Every form completes (R606, R607) -/

theorem exec_instrShiftEb1 (op : ShiftOp) (m : RM Reg8) (s : State) :
    exec (instrShiftEb1 op m) s = .next (shiftRM8 op 1 m s) := by
  cases op <;> rfl

theorem exec_instrShiftEbCL (op : ShiftOp) (m : RM Reg8) (s : State) :
    exec (instrShiftEbCL op m) s = .next (shiftRM8 op s.countCL m s) := by
  cases op <;> rfl

theorem exec_instrShiftEw1 (op : ShiftOp) (m : RM Reg16) (s : State) :
    exec (instrShiftEw1 op m) s = .next (shiftRM16 op 1 m s) := by
  cases op <;> rfl

theorem exec_instrShiftEwCL (op : ShiftOp) (m : RM Reg16) (s : State) :
    exec (instrShiftEwCL op m) s = .next (shiftRM16 op s.countCL m s) := by
  cases op <;> rfl

/-- Settles O18: a form runs the shift of its operand by its count, and `countCL` is the whole of CL. -/
theorem shiftsComplete : Obligations.ShiftsComplete := fun op _ h =>
  ⟨fun m => ⟨⟨_, exec_instrShiftEb1 .., shiftRM8_done op 1 m h⟩,
      ⟨_, exec_instrShiftEbCL .., shiftRM8_done op _ m h⟩⟩,
    fun m => ⟨⟨_, exec_instrShiftEw1 .., shiftRM16_done op 1 m h⟩,
      ⟨_, exec_instrShiftEwCL .., shiftRM16_done op _ m h⟩⟩⟩

variable {w : Nat}

/-! ### The bits of a step (R608 to R614) -/

/-- Counted from the high end, bits move down by one place and `b` comes in at the low end. -/
theorem getMsbD_shiftLeft_one_or_lowBit (v : BitVec w) (b : Bool) {i : Nat} (hi : i < w) :
    (v <<< 1 ||| lowBit w b).getMsbD i = if i + 1 < w then v.getMsbD (i + 1) else b := by
  rw [BitVec.getMsbD_or, BitVec.getMsbD_shiftLeft, lowBit, BitVec.getMsbD_eq_getLsbD (BitVec.setWidth ..),
    BitVec.getLsbD_setWidth, BitVec.getLsbD_ofBool]
  split
  · simp [show w - 1 - i ≠ 0 by omega]
  · simp [show w - 1 - i = 0 by omega, BitVec.getMsbD_of_ge v (i + 1) (by omega), hi,
      Nat.zero_lt_of_lt hi]

/-- The other way round, `b` comes in at the high end. -/
theorem getLsbD_ushiftRight_one_or_highBit (v : BitVec w) (b : Bool) {i : Nat} (hi : i < w) :
    (v >>> 1 ||| highBit w b).getLsbD i = if i + 1 < w then v.getLsbD (i + 1) else b := by
  rw [BitVec.getLsbD_or, BitVec.getLsbD_ushiftRight, highBit, BitVec.getLsbD_shiftLeft, lowBit,
    BitVec.getLsbD_setWidth, BitVec.getLsbD_ofBool, Nat.add_comm 1 i]
  split
  · simp [show i < w - 1 by omega]
  · simp [show i - (w - 1) = 0 by omega, show ¬i < w - 1 by omega, BitVec.getLsbD_of_ge v (i + 1) (by omega), hi,
      Nat.zero_lt_of_lt hi]

/-! ### Rotations -/

theorem getLsbD_rotateRight_mod (x : BitVec w) (n : Nat) {i : Nat} (hi : i < w) :
    (x.rotateRight n).getLsbD i = x.getLsbD ((n + i) % w) := by
  have hn := Nat.mod_lt n (Nat.zero_lt_of_lt hi)
  rw [BitVec.getLsbD_rotateRight, ← Nat.mod_add_mod]
  generalize n % w = r at hn ⊢
  by_cases h : i < w - r
  · simp [h, Nat.mod_eq_of_lt (show r + i < w by omega)]
  · simp [h, hi, Nat.mod_eq_sub_mod (show w ≤ r + i by omega), Nat.mod_eq_of_lt (show r + i - w < w by omega),
      show i - (w - r) = r + i - w by omega]

theorem getMsbD_rotateLeft_mod (x : BitVec w) (n : Nat) {i : Nat} (hi : i < w) :
    (x.rotateLeft n).getMsbD i = x.getMsbD ((n + i) % w) := by
  simp [BitVec.getMsbD_rotateLeft, hi]

theorem rotateLeft_add (x : BitVec w) (m n : Nat) : x.rotateLeft (m + n) = (x.rotateLeft m).rotateLeft n := by
  refine BitVec.eq_of_getMsbD_eq fun i hi => ?_
  have hw := Nat.zero_lt_of_lt hi
  rw [getMsbD_rotateLeft_mod _ _ hi, getMsbD_rotateLeft_mod _ _ hi, getMsbD_rotateLeft_mod _ _ (Nat.mod_lt _ hw),
    Nat.add_mod_mod, Nat.add_assoc]

theorem rotateRight_add (x : BitVec w) (m n : Nat) : x.rotateRight (m + n) = (x.rotateRight m).rotateRight n := by
  refine BitVec.eq_of_getLsbD_eq fun i hi => ?_
  have hw := Nat.zero_lt_of_lt hi
  rw [getLsbD_rotateRight_mod _ _ hi, getLsbD_rotateRight_mod _ _ hi, getLsbD_rotateRight_mod _ _ (Nat.mod_lt _ hw),
    Nat.add_mod_mod, Nat.add_assoc]

theorem rotateLeft_zero (x : BitVec w) : x.rotateLeft 0 = x := by
  simp [BitVec.rotateLeft_def, BitVec.ushiftRight_eq_zero]

theorem rotateRight_zero (x : BitVec w) : x.rotateRight 0 = x := by simp [BitVec.rotateRight_def]

theorem rotateLeft_width (x : BitVec w) : x.rotateLeft w = x := by
  rw [← BitVec.rotateLeft_mod_eq_rotateLeft, Nat.mod_self, rotateLeft_zero]

theorem rotateRight_width (x : BitVec w) : x.rotateRight w = x := by
  rw [← BitVec.rotateRight_mod_eq_rotateRight, Nat.mod_self, rotateRight_zero]

/-- The place after `i` around a ring of `w`. -/
theorem succ_mod_eq_ite {i : Nat} (hi : i < w) : (1 + i) % w = if i + 1 < w then i + 1 else 0 := by
  rw [Nat.add_comm]
  split
  · exact Nat.mod_eq_of_lt ‹_›
  · rw [show i + 1 = w by omega, Nat.mod_self]

/-! ### One step is an operation by 1 -/

theorem rol_step_fst (v : BitVec w) (c : Bool) : (ShiftOp.rol.step v c).1 = v.rotateLeft 1 := by
  refine BitVec.eq_of_getMsbD_eq fun i hi => ?_
  rw [ShiftOp.step, getMsbD_shiftLeft_one_or_lowBit _ _ hi, getMsbD_rotateLeft_mod _ _ hi, succ_mod_eq_ite hi,
    apply_ite v.getMsbD]
  rfl

theorem ror_step_fst (v : BitVec w) (c : Bool) : (ShiftOp.ror.step v c).1 = v.rotateRight 1 := by
  refine BitVec.eq_of_getLsbD_eq fun i hi => ?_
  rw [ShiftOp.step, getLsbD_ushiftRight_one_or_highBit _ _ hi, getLsbD_rotateRight_mod _ _ hi, succ_mod_eq_ite hi,
    apply_ite v.getLsbD]

theorem sar_step_fst (v : BitVec w) (c : Bool) : (ShiftOp.sar.step v c).1 = v.sshiftRight 1 := by
  refine BitVec.eq_of_getLsbD_eq fun i hi => ?_
  rw [ShiftOp.step, getLsbD_ushiftRight_one_or_highBit _ _ hi, BitVec.getLsbD_sshiftRight, Nat.add_comm 1 i]
  simp [hi]

/-- CF and the operand as one vector of w + 1 bits, CF at the high end (R610, R611). -/
def withCarry (x : BitVec w × Bool) : BitVec (w + 1) := BitVec.cons x.2 x.1

theorem withCarry_injective : Function.Injective (withCarry (w := w)) := by
  rintro ⟨v, b⟩ ⟨v', b'⟩ h
  have hb := congrArg BitVec.msb h
  have hv := congrArg (BitVec.setWidth w) h
  simp only [withCarry, BitVec.msb_cons, BitVec.setWidth_cons] at hb hv
  rw [hb, hv]

theorem withCarry_rcl_step (hw : 0 < w) (v : BitVec w) (c : Bool) :
    withCarry (ShiftOp.rcl.step v c) = (withCarry (v, c)).rotateLeft 1 := by
  refine BitVec.eq_of_getMsbD_eq fun i hi => ?_
  rw [getMsbD_rotateLeft_mod _ _ hi, succ_mod_eq_ite hi]
  cases i with
  | zero => simp [withCarry, ShiftOp.step, hw, BitVec.msb_eq_getMsbD_zero]
  | succ i =>
    have hi' : i < w := by omega
    simp only [withCarry, ShiftOp.step, BitVec.getMsbD_cons_succ, getMsbD_shiftLeft_one_or_lowBit _ _ hi',
      Nat.add_lt_add_iff_right]
    split <;> simp

theorem withCarry_rcr_step (hw : 0 < w) (v : BitVec w) (c : Bool) :
    withCarry (ShiftOp.rcr.step v c) = (withCarry (v, c)).rotateRight 1 := by
  refine BitVec.eq_of_getLsbD_eq fun i hi => ?_
  rw [getLsbD_rotateRight_mod _ _ hi, succ_mod_eq_ite hi]
  simp only [withCarry, ShiftOp.step, BitVec.getLsbD_cons, Nat.add_lt_add_iff_right]
  by_cases h : i = w
  · simp [h, hw.ne]
  · rw [if_neg h, getLsbD_ushiftRight_one_or_highBit _ _ (by omega), if_pos (show i < w by omega)]
    rw [if_congr (show i + 1 < w ↔ ¬i + 1 = w by omega) rfl rfl, ite_not]

/-! ### n steps are the operation by n (R607) -/

/-- What the bit steps come to in the view `g` of operand and CF: where one step is the operation `f` by 1, and `f` by
`m + n` is `f` by `m`, then by `n`, n steps are `f` by `n`. -/
theorem view_steps {u : Nat} {op : ShiftOp} (g : BitVec w × Bool → BitVec u) {f : BitVec u → Nat → BitVec u}
    (zero : ∀ x, f x 0 = x) (add : ∀ x m n, f x (m + n) = f (f x m) n)
    (step : ∀ v c, g (op.step v c) = f (g (v, c)) 1) (n : Nat) (v : BitVec w) (c : Bool) :
    g (op.steps n v c) = f (g (v, c)) n := by
  induction n generalizing v c with
  | zero => exact (zero _).symm
  | succ n ih => rw [ShiftOp.steps, ih, step, ← add, Nat.add_comm]

variable (n : Nat) (v : BitVec w) (c : Bool)

theorem shl_steps_fst : (ShiftOp.shl.steps n v c).1 = v <<< n :=
  view_steps (f := (· <<< ·)) Prod.fst BitVec.shiftLeft_zero BitVec.shiftLeft_add (fun _ _ => rfl) n v c

theorem shr_steps_fst : (ShiftOp.shr.steps n v c).1 = v >>> n :=
  view_steps (f := (· >>> ·)) Prod.fst BitVec.ushiftRight_zero BitVec.shiftRight_add (fun _ _ => rfl) n v c

theorem sar_steps_fst : (ShiftOp.sar.steps n v c).1 = v.sshiftRight n :=
  view_steps Prod.fst (fun _ => BitVec.sshiftRight_zero) (fun _ _ _ => BitVec.sshiftRight_add) sar_step_fst n v c

theorem rol_steps_fst : (ShiftOp.rol.steps n v c).1 = v.rotateLeft n :=
  view_steps Prod.fst rotateLeft_zero rotateLeft_add rol_step_fst n v c

theorem ror_steps_fst : (ShiftOp.ror.steps n v c).1 = v.rotateRight n :=
  view_steps Prod.fst rotateRight_zero rotateRight_add ror_step_fst n v c

theorem withCarry_rcl_steps (hw : 0 < w) :
    withCarry (ShiftOp.rcl.steps n v c) = (withCarry (v, c)).rotateLeft n :=
  view_steps withCarry rotateLeft_zero rotateLeft_add (withCarry_rcl_step hw) n v c

theorem withCarry_rcr_steps (hw : 0 < w) :
    withCarry (ShiftOp.rcr.steps n v c) = (withCarry (v, c)).rotateRight n :=
  view_steps withCarry rotateRight_zero rotateRight_add (withCarry_rcr_step hw) n v c

theorem rcl_steps_period (hw : 0 < w) : ShiftOp.rcl.steps (w + 1) v c = (v, c) :=
  withCarry_injective ((withCarry_rcl_steps _ v c hw).trans (rotateLeft_width _))

theorem rcr_steps_period (hw : 0 < w) : ShiftOp.rcr.steps (w + 1) v c = (v, c) :=
  withCarry_injective ((withCarry_rcr_steps _ v c hw).trans (rotateRight_width _))

/-! ### CF is the last bit out (R607 to R614) -/

theorem steps_succ (op : ShiftOp) :
    op.steps (n + 1) v c = op.step (op.steps n v c).1 (op.steps n v c).2 := by
  induction n generalizing v c with
  | zero => rfl
  | succ n ih => exact ih ..

theorem shl_steps_cf : (ShiftOp.shl.steps (n + 1) v c).2 = v.getMsbD n := by
  rw [steps_succ, shl_steps_fst]
  exact BitVec.msb_shiftLeft

theorem shr_steps_cf : (ShiftOp.shr.steps (n + 1) v c).2 = v.getLsbD n := by
  rw [steps_succ, shr_steps_fst]
  exact BitVec.getLsbD_ushiftRight ..

theorem sar_steps_cf (hw : 0 < w) :
    (ShiftOp.sar.steps (n + 1) v c).2 = if n < w then v.getLsbD n else v.msb := by
  rw [steps_succ, sar_steps_fst, ShiftOp.step, BitVec.getLsbD_sshiftRight]
  simp [hw.ne']

/-- The bit that leaves at one end has come in at the other. -/
theorem rol_steps_cf (hw : 0 < w) : (ShiftOp.rol.steps (n + 1) v c).2 = (v.rotateLeft (n + 1)).getLsbD 0 := by
  have h := getMsbD_rotateLeft_mod (v.rotateLeft n) 1 (show w - 1 < w by omega)
  rw [← rotateLeft_add, show 1 + (w - 1) = w by omega, Nat.mod_self, BitVec.getMsbD_eq_getLsbD] at h
  rw [steps_succ, rol_steps_fst, ShiftOp.step, BitVec.msb_eq_getMsbD_zero, ← h]
  simp [hw]

theorem ror_steps_cf (hw : 0 < w) : (ShiftOp.ror.steps (n + 1) v c).2 = (v.rotateRight (n + 1)).msb := by
  have h := getLsbD_rotateRight_mod (v.rotateRight n) 1 (show w - 1 < w by omega)
  rw [← rotateRight_add, show 1 + (w - 1) = w by omega, Nat.mod_self] at h
  rw [steps_succ, ror_steps_fst, ShiftOp.step, BitVec.msb_eq_getLsbD_last, h]

/-! ### A count of 1 (R608 to R614) -/

theorem getLsbD_zero_shiftLeft_one_or_lowBit (b : Bool) (hw : 0 < w) : (v <<< 1 ||| lowBit w b).getLsbD 0 = b := by
  simp [lowBit, hw]

theorem msb_ushiftRight_one_or_highBit (b : Bool) (hw : 0 < w) : (v >>> 1 ||| highBit w b).msb = b := by
  rw [BitVec.msb_eq_getLsbD_last, getLsbD_ushiftRight_one_or_highBit _ _ (by omega), if_neg (by omega)]

/-- OF of ROR and RCR: the two high bits of the result are the bit that came in and the old sign. -/
theorem msb_xor_next_ushiftRight_one_or_highBit (b : Bool) (hw : 1 < w) :
    ((v >>> 1 ||| highBit w b).msb ^^ (v >>> 1 ||| highBit w b).getLsbD (w - 2)) = (v.msb ^^ b) := by
  rw [msb_ushiftRight_one_or_highBit _ _ (by omega), getLsbD_ushiftRight_one_or_highBit _ _ (by omega),
    if_pos (by omega), BitVec.msb_eq_getLsbD_last, show w - 2 + 1 = w - 1 by omega, Bool.xor_comm]

/-- CF after a count other than 0, in the clauses of the statement. -/
theorem steps_cf (hw : 0 < w) (hn : 0 < n) :
    (n ≤ w → (ShiftOp.shl.steps n v c).2 = v.getLsbD (w - n)) ∧ (w < n → (ShiftOp.shl.steps n v c).2 = false) ∧
      (ShiftOp.shr.steps n v c).2 = v.getLsbD (n - 1) ∧
      (n ≤ w → (ShiftOp.sar.steps n v c).2 = v.getLsbD (n - 1)) ∧ (w < n → (ShiftOp.sar.steps n v c).2 = v.msb) ∧
      (ShiftOp.rol.steps n v c).2 = (v.rotateLeft n).getLsbD 0 ∧
      (ShiftOp.ror.steps n v c).2 = (v.rotateRight n).msb := by
  obtain ⟨n, rfl⟩ := Nat.exists_eq_add_of_lt hn
  rw [Nat.zero_add, shl_steps_cf, sar_steps_cf n v c hw, BitVec.getMsbD_eq_getLsbD]
  refine ⟨fun h => ?_, fun h => ?_, shr_steps_cf n v c, fun h => if_pos h, fun h => if_neg (by omega),
    rol_steps_cf n v c hw, ror_steps_cf n v c hw⟩
  · rw [decide_eq_true (show n < w from h), Bool.true_and, Nat.sub_sub, Nat.add_comm 1 n]
  · rw [decide_eq_false (show ¬ n < w by omega), Bool.false_and]

theorem rol_steps_width_cf (hw : 0 < w) : (ShiftOp.rol.steps w v c).2 = v.getLsbD 0 := by
  obtain ⟨-, -, -, -, -, h, -⟩ := steps_cf w v c hw hw
  rw [h, rotateLeft_width]

theorem ror_steps_width_cf (hw : 0 < w) : (ShiftOp.ror.steps w v c).2 = v.msb := by
  obtain ⟨-, -, -, -, -, -, h⟩ := steps_cf w v c hw hw
  rw [h, rotateRight_width]

/-- Settles O19: the operands by `view_steps`, CF from the last step, OF from the bits of one step. -/
theorem shiftSteps : Obligations.ShiftSteps := by
  refine ⟨fun w v c h => ?_, fun w v c h => ?_⟩
  · have hw : 0 < w := by omega
    exact ⟨fun n => ⟨shl_steps_fst n v c, shr_steps_fst n v c, sar_steps_fst n v c, rol_steps_fst n v c,
        ror_steps_fst n v c, withCarry_rcl_steps n v c hw, withCarry_rcr_steps n v c hw⟩,
      fun _ => rfl, fun n hn => steps_cf n v c hw hn, ⟨rcl_steps_period v c hw, rcr_steps_period v c hw⟩,
      rol_steps_width_cf v c hw, ror_steps_width_cf v c hw⟩
  · have hw : 1 < w := by omega
    exact ⟨⟨rfl, rfl, rfl, rfl, rfl, rfl, rfl⟩, getLsbD_zero_shiftLeft_one_or_lowBit v c (by omega),
      msb_ushiftRight_one_or_highBit v c (by omega), rfl, rfl, rfl,
      msb_xor_next_ushiftRight_one_or_highBit v _ hw, msb_xor_next_ushiftRight_one_or_highBit v c hw, rfl, rfl⟩

end Sys2Proof.Proofs
end

section
/-! The string instructions: what one operation of each primitive leaves behind, and the rule of their repetition
(43_string.md R700 to R707). -/

namespace Sys2Proof.Proofs

open Sys2Proof Sys2Proof.Machine Sys2Proof.Laws

variable {s : State}

/-! ### The instructions -/

theorem exec_instrString (p : StringPrim) (w : Width) (s : State) :
    exec (instrString p w) s = .next (s.string p w) := by
  cases p <;> cases w <;> rfl

theorem string_of_repPrefix_none (h : s.eu.repPrefix = none) (p : StringPrim) (w : Width) :
    s.string p w = s.stringOp p w (s.segReg .ds) := by
  simp only [State.string, h]

/-! ### The parts of an operation (R700) -/

/-- An index register after its step. -/
def indexAfter (df : Bool) (w : Width) (i : Word) : Word := if df then i - Width.delta w else i + Width.delta w

/-- AX after its low bits of a width are loaded. -/
def accAfter (ax v : Word) : Width → Word
  | .byte => wordOf (loByte v) (hiByte ax)
  | .word => v

/-- The stores of a value at a width. -/
def widthStores (seg off v : Word) : Width → List (LinAddr × Byte)
  | .byte => byteStore seg off (loByte v)
  | .word => wordStores seg off v

/-- The flags of a comparison at a width. -/
def compareFlags (f : Flags) (a b : Word) : Width → Flags
  | .byte => subFlags f (loByte a) (loByte b) false
  | .word => subFlags f a b false

theorem stepSI_regs (s : State) (w : Width) :
    (s.stepIndex w .si).regs = { s.regs with si := indexAfter s.flags.df w s.regs.si } := rfl

theorem stepDI_regs (s : State) (w : Width) :
    (s.stepIndex w .di).regs = { s.regs with di := indexAfter s.flags.df w s.regs.di } := rfl

theorem stepSI_stepDI_regs (s : State) (w : Width) :
    ((s.stepIndex w .si).stepIndex w .di).regs =
      { s.regs with si := indexAfter s.flags.df w s.regs.si, di := indexAfter s.flags.df w s.regs.di } := rfl

theorem sameCore_stepIndex (s : State) (w : Width) (r : Reg16) : SameCore s (s.stepIndex w r) := sameCore_setReg16 ..

theorem sameCore_writeWidth (s : State) (w : Width) (seg off v : Word) : SameCore s (s.writeWidth w seg off v) := by
  cases w with
  | byte => exact sameCore_writeB ..
  | word => exact sameCore_writeW ..

theorem writeWidth_regs (s : State) (w : Width) (seg off v : Word) : (s.writeWidth w seg off v).regs = s.regs := by
  cases w <;> rfl

theorem writeWidth_flags (s : State) (w : Width) (seg off v : Word) : (s.writeWidth w seg off v).flags = s.flags := by
  cases w <;> rfl

theorem memAfter_writeWidth (h : s.MemOk) (w : Width) (seg off v : Word) :
    MemAfter s (s.writeWidth w seg off v) (widthStores seg off v w) := by
  cases w
  · exact memAfter_writeB h seg off (loByte v)
  · exact memAfter_writeW h seg off v

/-- A comparison writes FLAGS alone. -/
theorem compareWidth_eq (s : State) (w : Width) (a b : Word) :
    s.compareWidth w a b = s.setFlags (compareFlags s.flags a b w) := by
  cases w <;> rfl

theorem compareFlags_df (f : Flags) (a b : Word) (w : Width) : (compareFlags f a b w).df = f.df := by
  cases w <;> rfl

theorem sameCore_compareWidth (s : State) (w : Width) (a b : Word) : SameCore s (s.compareWidth w a b) := by
  rw [compareWidth_eq]
  exact sameCore_setFlags ..

/-- A load of the accumulator writes AX alone. -/
theorem setAcc_eq (s : State) (w : Width) (v : Word) :
    s.setAcc w v = s.setReg16 .ax (accAfter s.regs.ax v w) := by
  cases w <;> rfl

theorem sameCore_setAcc (s : State) (w : Width) (v : Word) : SameCore s (s.setAcc w v) := by
  rw [setAcc_eq]
  exact sameCore_setReg16 ..

/-! ### The primitives (R703 to R707) -/

/-- No operation of a primitive writes a segment register, IP, a latch or the BIU. -/
theorem sameCore_stringOp (s : State) (p : StringPrim) (w : Width) (g : SReg) : SameCore s (s.stringOp p w g) := by
  have read (u : State) (seg off : Word) : SameCore u (u.readWidth w seg off).2 := (readOnly_readWidth ..).sameCore
  have step {u : State} (r : Reg16) (h : SameCore s u) : SameCore s (u.stepIndex w r) :=
    SameCore.trans h (sameCore_stepIndex u w r)
  cases p with
  | movs => exact step .di (step .si (SameCore.trans (read ..) (sameCore_writeWidth ..)))
  | cmps => exact step .di (step .si (SameCore.trans (SameCore.trans (read ..) (read ..)) (sameCore_compareWidth ..)))
  | scas => exact step .di (SameCore.trans (read ..) (sameCore_compareWidth ..))
  | lods => exact step .si (SameCore.trans (read ..) (sameCore_setAcc ..))
  | stos => exact step .di (sameCore_writeWidth ..)

/-- The general registers after an operation: the index registers it used have stepped, and LODS has loaded AX. -/
def regsAfter (s : State) (w : Width) (g : SReg) : StringPrim → Regs
  | .movs | .cmps =>
    { s.regs with si := indexAfter s.flags.df w s.regs.si, di := indexAfter s.flags.df w s.regs.di }
  | .scas | .stos => { s.regs with di := indexAfter s.flags.df w s.regs.di }
  | .lods =>
    { s.regs with
      ax := accAfter s.regs.ax (s.readWidth w (s.sreg g) s.regs.si).1 w
      si := indexAfter s.flags.df w s.regs.si }

theorem stringOp_regs (s : State) (p : StringPrim) (w : Width) (g : SReg) :
    (s.stringOp p w g).regs = regsAfter s w g p := by
  have src := readOnly_readWidth s w (s.sreg g) s.regs.si
  have dst := readOnly_readWidth s w s.sregs.es s.regs.di
  have both := src.trans (readOnly_readWidth _ w s.sregs.es s.regs.di)
  cases p with
  | movs =>
    simp only [State.stringOp, stepSI_stepDI_regs, writeWidth_regs, writeWidth_flags, src.regs, src.flags, regsAfter]
  | cmps =>
    simp only [State.stringOp, stepSI_stepDI_regs, compareWidth_eq, setFlags_regs, setFlags_flags, compareFlags_df,
      both.regs, both.flags, regsAfter]
  | scas =>
    simp only [State.stringOp, stepDI_regs, compareWidth_eq, setFlags_regs, setFlags_flags, compareFlags_df, dst.regs,
      dst.flags, regsAfter]
  | lods =>
    simp only [State.stringOp, stepSI_regs, setAcc_eq, setReg16_regs, setReg16_flags, Regs.set, src.regs, src.flags,
      regsAfter]
  | stos => simp only [State.stringOp, stepDI_regs, writeWidth_regs, writeWidth_flags, regsAfter]

/-- MOVS stores what it reads (R703). -/
theorem stringOp_movs (h : s.MemOk) (w : Width) (g : SReg) :
    let t := s.stringOp .movs w g
    t.flags = s.flags ∧
      MemAfter s t (widthStores s.sregs.es s.regs.di (s.readWidth w (s.sreg g) s.regs.si).1 w) := by
  have ro := readOnly_readWidth s w (s.sreg g) s.regs.si
  have hw := memAfter_writeWidth (MemOk.of_mem h ro.mem) w s.sregs.es s.regs.di (s.readWidth w (s.sreg g) s.regs.si).1
  exact ⟨(writeWidth_flags ..).trans ro.flags, MemAfter.of_same hw ro.mem ro.regions⟩

/-- CMPS compares the source with the destination (R704). -/
theorem stringOp_cmps (s : State) (w : Width) (g : SReg) :
    let t := s.stringOp .cmps w g
    let a := s.readWidth w (s.sreg g) s.regs.si
    MemSame s t ∧ t.flags = compareFlags s.flags a.1 (a.2.readWidth w s.sregs.es s.regs.di).1 w := by
  have ro := (readOnly_readWidth s w (s.sreg g) s.regs.si).trans (readOnly_readWidth _ w s.sregs.es s.regs.di)
  simp only [State.stringOp, compareWidth_eq, ro.flags]
  exact ⟨fun a => congrArg (·.read a) ro.mem, rfl⟩

/-- SCAS compares the accumulator with the destination (R705). -/
theorem stringOp_scas (s : State) (w : Width) (g : SReg) :
    let t := s.stringOp .scas w g
    MemSame s t ∧ t.flags = compareFlags s.flags s.regs.ax (s.readWidth w s.sregs.es s.regs.di).1 w := by
  have ro := readOnly_readWidth s w s.sregs.es s.regs.di
  simp only [State.stringOp, compareWidth_eq, ro.flags]
  exact ⟨fun a => congrArg (·.read a) ro.mem, rfl⟩

/-- LODS writes general registers alone (R706). -/
theorem stringOp_lods (s : State) (w : Width) (g : SReg) :
    let t := s.stringOp .lods w g
    MemSame s t ∧ t.flags = s.flags := by
  have ro := readOnly_readWidth s w (s.sreg g) s.regs.si
  simp only [State.stringOp, setAcc_eq]
  exact ⟨fun a => congrArg (·.read a) ro.mem, ro.flags⟩

/-- STOS stores the accumulator (R707). -/
theorem stringOp_stos (h : s.MemOk) (w : Width) (g : SReg) :
    let t := s.stringOp .stos w g
    t.flags = s.flags ∧ MemAfter s t (widthStores s.sregs.es s.regs.di s.regs.ax w) :=
  ⟨writeWidth_flags .., memAfter_writeWidth h _ _ _ _⟩

/-- Settles O32: without a repeat prefix an instruction is one operation of its primitive. -/
theorem stringsOnce : Obligations.StringsOnce := by
  intro s w h hp
  have hx (p : StringPrim) : exec (instrString p w) s = .next (s.stringOp p w (s.segReg .ds)) := by
    rw [exec_instrString, string_of_repPrefix_none hp]
  have hc (p : StringPrim) := sameCore_stringOp s p w (s.segReg .ds)
  have hr (p : StringPrim) := stringOp_regs s p w (s.segReg .ds)
  obtain ⟨fm, mm⟩ := stringOp_movs h w (s.segReg .ds)
  obtain ⟨mc, fc⟩ := stringOp_cmps s w (s.segReg .ds)
  obtain ⟨ms, fs⟩ := stringOp_scas s w (s.segReg .ds)
  obtain ⟨ml, fl⟩ := stringOp_lods s w (s.segReg .ds)
  obtain ⟨ft, mt⟩ := stringOp_stos h w (s.segReg .ds)
  exact ⟨⟨_, hx _, hc _, fm, mm, hr _⟩, ⟨_, hx _, hc _, mc, fc, hr _⟩, ⟨_, hx _, hc _, ms, fs, hr _⟩,
    ⟨_, hx _, hc _, ml, fl, hr _⟩, _, hx _, hc _, ft, mt, hr _⟩

/-! ### Repetition (R701, R702) -/

/-- No operation of a primitive writes CX. -/
theorem stringOp_cx (s : State) (p : StringPrim) (w : Width) (g : SReg) :
    (s.stringOp p w g).regs.cx = s.regs.cx := by
  rw [stringOp_regs]
  cases p <;> rfl

/-- A repetition ends when ZF fails the condition of a CMPS or SCAS, or when CX is 0 (R701). -/
theorem ends_iff (r : RepState) (zf : Bool) (cx : Word) :
    r.ends zf cx = true ↔
      (r.prim = .cmps ∨ r.prim = .scas) ∧ ((r.cond = .repe ∧ zf = false) ∨ (r.cond = .repne ∧ zf = true)) ∨ cx = 0 := by
  cases hc : r.cond <;> simp [RepState.ends, hc]

theorem string_of_cx_zero {c : RepCond} (hp : s.eu.repPrefix = some c) (hcx : s.regs.cx = 0) (p : StringPrim)
    (w : Width) : s.string p w = s := by
  simp only [State.string, hp, hcx, if_true]

theorem string_of_cx_ne_zero {c : RepCond} (hp : s.eu.repPrefix = some c) (hcx : s.regs.cx ≠ 0) (p : StringPrim)
    (w : Width) :
    s.string p w =
      s.iterate { prim := p, width := w, cond := c, seg := s.segReg .ds, resumeIp := s.ip - 2 } := by
  simp only [State.string, hp, hcx, if_false]

/-- The record of the repetition after an iteration, and nothing else of the EU (R701). -/
theorem iterate_eu (s : State) (r : RepState) :
    (s.iterate r).eu =
      { s.eu with
        rep := if r.ends (s.stringOp r.prim r.width r.seg).flags.zf (s.regs.cx - 1) then none else some r } := by
  obtain ⟨-, -, -, heu, -⟩ := sameCore_stringOp s r.prim r.width r.seg
  rw [← heu, ← stringOp_cx s r.prim r.width r.seg]
  rfl

/-- With no interrupt due a step inside a repetition is its next iteration (30_encoding.md R315). -/
theorem step_iterate {c : State} {r : RepState} (hr : s.refused = false) (hin : s.nextInput.reset = false)
    (hd : s.eu.decoding = false) (hh : s.eu.halted = false) (hw : s.eu.waiting = false) (hrep : s.eu.rep = some r)
    (hb : s.beginStep.boundaryCheck = (false, c)) :
    step s = .next ((c.prefetch c.pins.prefetch).iterate r).endStep := by
  obtain rfl : s.beginStep.clearShadows = c := by rw [← boundaryCheck_none (congrArg Prod.fst hb), hb]
  have hd' : s.beginStep.eu.decoding = false := hd
  have hh' : s.beginStep.clearShadows.eu.halted = false := hh
  have hw' : s.beginStep.clearShadows.eu.waiting = false := hw
  have hrep' : s.beginStep.clearShadows.eu.rep = some r := hrep
  simp [step_of_not_refused hr, State.runStep, hin, hd', hb, State.proceed, hh', hw', hrep']

/-- Settles O33: the first clauses by definition, the iteration by what an operation of its primitive leaves alone, and
the step by whether its boundary takes an interrupt. -/
theorem repetitionRule : Obligations.RepetitionRule := by
  refine ⟨⟨fun _ => ⟨rfl, rfl⟩, fun _ => ⟨⟨_, rfl, rfl⟩, _, rfl, rfl⟩⟩,
    fun s p w c hp => ⟨fun hcx => ?_, fun hcx => ?_⟩, fun s r => ?_, fun s c taken r hr hin hd hh hw hrep hb => ?_⟩
  · exact ⟨_, exec_instrString .., string_of_cx_zero hp hcx ..⟩
  · exact ⟨_, exec_instrString .., string_of_cx_ne_zero hp hcx ..⟩
  · obtain ⟨-, hsr, hip, -, hbiu⟩ := sameCore_stringOp s r.prim r.width r.seg
    have hcx := stringOp_cx s r.prim r.width r.seg
    refine ⟨?_, rfl, rfl, hip, hsr, hbiu, fun h => ?_, fun hs hc => ?_⟩
    · rw [← hcx]
      rfl
    · rw [iterate_eu, if_pos ((ends_iff ..).mpr h)]
    · rw [iterate_eu, if_neg fun h => ((ends_iff ..).mp h).elim hs hc]
  · cases taken with
    | true => exact step_taken hr hin hd hb
    | false => exact step_iterate hr hin hd hh hw hrep hb

end Sys2Proof.Proofs
end

section
/-! The control transfer instructions: what a jump, a pop and a pair of pushes leave behind, and from them every JMP,
conditional jump, loop, CALL, RET and software interrupt (44_control_transfer.md R800 to R838). -/

namespace Sys2Proof.Proofs

open Sys2Proof Sys2Proof.Machine Sys2Proof.Laws

variable {s t u : State}

/-! ### Jumps (R800 to R805) -/

/-- A far jump, after steps that left FLAGS and all but general registers and memory alone. -/
theorem jumped_jumpFar (c : SameCore s u) (hf : u.flags = s.flags) (cs ip : Word) :
    Jumped s (u.jumpFar cs ip) cs ip := by
  obtain ⟨fixed, hs, -, heu, -⟩ := c
  exact ⟨fixed, rfl, congrArg (·.set .cs cs) hs, flushed_jump .., heu, hf⟩

/-- A near jump is the far jump in the segment of CS. -/
theorem jumped_jump (c : SameCore s u) (hf : u.flags = s.flags) (ip : Word) :
    Jumped s (u.jump ip) s.sregs.cs ip := by
  have ⟨_, hs, _⟩ := c
  have e : u.jump ip = u.jumpFar s.sregs.cs ip := by rw [← hs]; rfl
  exact e ▸ jumped_jumpFar c hf ..

theorem jumpFar_effect (ro : ReadOnly s u) (cs ip : Word) :
    Jumped s (u.jumpFar cs ip) cs ip ∧ WroteNothing s (u.jumpFar cs ip) :=
  ⟨jumped_jumpFar ro.sameCore ro.flags .., wroteNothing_of ro.regs ro.mem⟩

theorem jump_effect (ro : ReadOnly s u) (ip : Word) :
    Jumped s (u.jump ip) s.sregs.cs ip ∧ WroteNothing s (u.jump ip) :=
  ⟨jumped_jump ro.sameCore ro.flags .., wroteNothing_of ro.regs ro.mem⟩

/-- Settles O34: each form is a jump, an indirect one after the read of its target. -/
theorem jumpsGoToTarget : Obligations.JumpsGoToTarget :=
  fun s => ⟨fun _ => ⟨_, rfl, jump_effect (.refl s) _⟩, fun _ => ⟨_, rfl, jump_effect (.refl s) _⟩,
    fun _ _ => ⟨_, rfl, jumpFar_effect (.refl s) ..⟩, fun m => ⟨_, rfl, jump_effect (readOnly_readRM16 s m) _⟩,
    fun a => ⟨_, rfl, jumpFar_effect (readOnly_readFar s a) ..⟩⟩

/-! ### Conditional jumps (R814 to R830) -/

theorem exec_instrJcc (c : Cond) (rel : Byte) (s : State) :
    exec (instrJcc c rel) s = .next (s.jumpIf (c.holds s.flags) rel) := by
  cases c <;> rfl

/-- A relative jump where the condition is true, nothing where it is false. -/
theorem jumpIf_effect (s : State) (b : Bool) (rel : Byte) :
    let t := s.jumpIf b rel
    if b then Jumped s t s.sregs.cs (s.ip + rel.signExtend 16) ∧ WroteNothing s t else t = s := by
  cases b with
  | true => exact jump_effect (.refl s) _
  | false => exact rfl

/-- A conditional jump, by any form `b` of its condition. -/
theorem instrJcc_completes {c : Cond} {b : Bool} (h : c.holds s.flags = b) (rel : Byte) :
    Completes (instrJcc c rel) s fun t =>
      if b then Jumped s t s.sregs.cs (s.ip + rel.signExtend 16) ∧ WroteNothing s t else t = s :=
  ⟨_, exec_instrJcc .., h ▸ jumpIf_effect s _ rel⟩

/-- Settles O35: the conditions of the model are those stated, JA, JGE and JG by De Morgan and double negation. -/
theorem conditionalJumps : Obligations.ConditionalJumps := by
  intro s rel c
  refine instrJcc_completes ?_ rel
  cases c with
  | a => exact (Bool.not_or ..).symm
  | ge => exact (Bool.not_not _).symm
  | g => exact ((Bool.not_or ..).trans (congrArg (!s.flags.zf && ·) (Bool.not_not _))).symm
  | _ => rfl

/-! ### Loops (R831 to R834) -/

theorem loop_eq (s : State) (ok : Bool) (rel : Byte) :
    s.loop ok rel =
      if s.regs.cx - 1 ≠ 0 ∧ ok = true then (s.setReg16 .cx (s.regs.cx - 1)).jump (s.ip + rel.signExtend 16)
      else s.setReg16 .cx (s.regs.cx - 1) := by
  simp [State.loop, State.jumpIf, sext16]

/-- CX is counted down, and then comes a jump unless CX is 0 or the condition fails. -/
theorem loop_effect (s : State) (ok : Bool) (rel : Byte) :
    let t := s.loop ok rel
    OnlyReg16 s t .cx (s.regs.cx - 1) ∧ MemSame s t ∧
      if s.regs.cx - 1 ≠ 0 ∧ ok = true then Jumped s t s.sregs.cs (s.ip + rel.signExtend 16)
      else SameCore s t ∧ t.flags = s.flags := by
  have core : SameCore s (s.setReg16 .cx (s.regs.cx - 1)) := sameCore_setReg16 ..
  have cx := onlyReg16_set s .cx (s.regs.cx - 1)
  rw [loop_eq]
  split
  · exact ⟨cx, fun _ => rfl, jumped_jump core rfl _⟩
  · exact ⟨cx, fun _ => rfl, core, rfl⟩

/-- Settles O36: the three loops differ in their condition alone, and JCXZ jumps by its own. -/
theorem loopsCountCX : Obligations.LoopsCountCX := by
  refine fun s rel => ⟨?_, _, rfl, ?_⟩
  · rintro i ok (⟨rfl, rfl⟩ | ⟨rfl, rfl⟩ | ⟨rfl, rfl⟩) <;> exact ⟨_, rfl, loop_effect ..⟩
  · simpa only [beq_iff_eq] using jumpIf_effect s (s.regs.cx == 0) rel

/-! ### Calls (R806 to R809) -/

/-- A second push, below the first. -/
theorem pushed_pushed {v w : Word} (h : Pushed s u v) (k : Pushed u t w) :
    SameCore s t ∧ t.flags = s.flags ∧ OnlySp s t (s.regs.sp - 4) ∧
      MemAfter s t (wordStores s.sregs.ss (s.regs.sp - 2) v ++ wordStores s.sregs.ss (s.regs.sp - 4) w) := by
  obtain ⟨core, flags, ⟨hsp, hreg⟩, mem⟩ := h
  obtain ⟨core', flags', ⟨hsp', hreg'⟩, mem'⟩ := k
  have ⟨⟨_, _, _, _, hregions, _⟩, hs, _⟩ := core
  have e : u.regs.sp - 2 = s.regs.sp - 4 := by
    rw [show u.regs.sp = s.regs.sp - 2 from hsp]
    bv_omega
  rw [hs, e] at mem'
  exact ⟨SameCore.trans core core', flags'.trans flags, ⟨hsp'.trans e, fun q hq => (hreg' q hq).trans (hreg q hq)⟩,
    MemAfter.append mem mem' hregions⟩

/-- A near call, after the read of its target. -/
theorem callNear_effect (h : s.MemOk) (ro : ReadOnly s u) (ip : Word) :
    let t := (u.push u.ip).jump ip
    Jumped s t s.sregs.cs ip ∧ OnlySp s t (s.regs.sp - 2) ∧
      MemAfter s t (wordStores s.sregs.ss (s.regs.sp - 2) s.ip) := by
  rw [ro.ip]
  obtain ⟨core, flags, sp, mem⟩ := pushed_after h ro s.ip
  exact ⟨jumped_jump core flags ip, sp, MemAfter.to_same mem rfl⟩

/-- A far call, after the read of its target. -/
theorem callFar_effect (h : s.MemOk) (ro : ReadOnly s u) (seg off : Word) :
    let t := u.callFar seg off
    Jumped s t seg off ∧ OnlySp s t (s.regs.sp - 4) ∧
      MemAfter s t
        (wordStores s.sregs.ss (s.regs.sp - 2) s.sregs.cs ++ wordStores s.sregs.ss (s.regs.sp - 4) s.ip) := by
  rw [State.callFar, ro.sregs, ro.ip]
  obtain ⟨core, flags, sp, mem⟩ := pushed_pushed (pushed_after h ro s.sregs.cs)
    (pushed_after (memOk_push (MemOk.of_mem h ro.mem) _) (.refl _) s.ip)
  exact ⟨jumped_jumpFar core flags seg off, sp, MemAfter.to_same mem rfl⟩

/-- Settles O37: each form is a near or a far call, an indirect one after the read of its target. -/
theorem callsPushReturn : Obligations.CallsPushReturn :=
  fun s h => ⟨fun _ => ⟨_, rfl, callNear_effect h (.refl s) _⟩,
    fun m => ⟨_, rfl, callNear_effect h (readOnly_readRM16 s m) _⟩, fun _ _ => ⟨_, rfl, callFar_effect h (.refl s) ..⟩,
    fun a => ⟨_, rfl, callFar_effect h (readOnly_readFar s a) ..⟩⟩

/-! ### Returns (R810 to R813, R838) -/

/-- A read of memory neither looks at a general register nor writes one. -/
theorem memRead_setReg16 (s : State) (r : Reg16) (v : Word) (a : LinAddr) (f : Bool) :
    (s.setReg16 r v).memRead a f = ((s.memRead a f).1, (s.memRead a f).2.setReg16 r v) := by
  simp only [State.memRead, State.memAnswer, State.answer, setReg16_plat]
  cases s.plat.kindAt a with
  | none => rfl
  | some k =>
    cases k with
    | unmapped => rfl
    | device => cases s.plat.answers <;> rfl

theorem readW_setReg16 (s : State) (r : Reg16) (v seg off : Word) :
    (s.setReg16 r v).readW seg off = ((s.readW seg off).1, (s.readW seg off).2.setReg16 r v) := by
  simp only [State.readW, memRead_setReg16]

/-- A pop with SP at `v` reads the word there and moves SP past it. -/
theorem pop_setReg16_sp (ro : ReadOnly s u) (v : Word) :
    (u.setReg16 .sp v).pop =
      ((u.readW s.sregs.ss v).1, (u.readW s.sregs.ss v).2.setReg16 .sp (v + 2)) := by
  rw [← ro.sregs, pop_eq, State.top, setReg16_sregs, show (u.setReg16 .sp v).regs.sp = v from rfl, readW_setReg16]
  rfl

/-- SP is written and then control transferred, after steps that only read. -/
theorem return_effect (ro : ReadOnly s u) (sp cs ip : Word) :
    let t := (u.setReg16 .sp sp).jumpFar cs ip
    Jumped s t cs ip ∧ OnlySp s t sp ∧ MemSame s t :=
  ⟨jumped_jumpFar (SameCore.trans ro.sameCore (sameCore_setReg16 ..)) ro.flags .., onlyReg16_of_regs ro.regs rfl,
    fun a => congrArg (·.read a) ro.mem⟩

/-- The same with FLAGS written as well. -/
theorem flagsReturn_effect (ro : ReadOnly s u) (sp cs ip : Word) (f : Flags) :
    let t := ((u.setReg16 .sp sp).setFlags f).jumpFar cs ip
    SameFixed s t ∧ t.ip = ip ∧ t.sregs = { s.sregs with cs := cs } ∧ t.Flushed ∧ t.eu = s.eu ∧ t.flags = f ∧
      OnlySp s t sp ∧ MemSame s t := by
  obtain ⟨⟨fixed, hip, hs, flushed, heu, -⟩, hsp, mem⟩ := return_effect ro sp cs ip
  exact ⟨fixed, hip, hs, flushed, heu, rfl, hsp, mem⟩

/-- The word on top of the stack and the state its read leaves, as a return pops it first. -/
def stackRead0 (s : State) : Word × State := s.readW s.sregs.ss s.regs.sp

/-- The word above it, read next. -/
def stackRead2 (s : State) : Word × State := (stackRead0 s).2.readW s.sregs.ss (s.regs.sp + 2)

/-- The third word, read last. -/
def stackRead4 (s : State) : Word × State := (stackRead2 s).2.readW s.sregs.ss (s.regs.sp + 4)

theorem readOnly_stackRead0 (s : State) : ReadOnly s (stackRead0 s).2 := readOnly_readW ..

theorem readOnly_stackRead2 (s : State) : ReadOnly s (stackRead2 s).2 :=
  (readOnly_stackRead0 s).trans (readOnly_readW ..)

theorem readOnly_stackRead4 (s : State) : ReadOnly s (stackRead4 s).2 :=
  (readOnly_stackRead2 s).trans (readOnly_readW ..)

theorem pop_eq_stackRead (s : State) :
    s.pop = ((stackRead0 s).1, (stackRead0 s).2.setReg16 .sp (s.regs.sp + 2)) := pop_eq s

theorem pop_pop_eq_stackRead (s : State) :
    s.pop.2.pop = ((stackRead2 s).1, (stackRead2 s).2.setReg16 .sp (s.regs.sp + 4)) := by
  have e : s.regs.sp + 2 + 2 = s.regs.sp + 4 := by bv_omega
  rw [pop_eq_stackRead s, pop_setReg16_sp (readOnly_stackRead0 s), e]
  rfl

theorem pop_pop_pop_eq_stackRead (s : State) :
    s.pop.2.pop.2.pop = ((stackRead4 s).1, (stackRead4 s).2.setReg16 .sp (s.regs.sp + 6)) := by
  have e : s.regs.sp + 4 + 2 = s.regs.sp + 6 := by bv_omega
  rw [pop_pop_eq_stackRead s, pop_setReg16_sp (readOnly_stackRead2 s), e]
  rfl

theorem ret_eq (s : State) (n : Word) :
    s.ret n = ((stackRead0 s).2.setReg16 .sp (s.regs.sp + 2 + n)).jumpFar s.sregs.cs (stackRead0 s).1 := by
  rw [State.ret, pop_eq_stackRead, ← (readOnly_stackRead0 s).sregs]
  rfl

theorem retFar_eq (s : State) (n : Word) :
    s.retFar n =
      ((stackRead2 s).2.setReg16 .sp (s.regs.sp + 4 + n)).jumpFar (stackRead2 s).1 (stackRead0 s).1 := by
  rw [State.retFar, pop_pop_eq_stackRead s, pop_eq_stackRead s]
  rfl

theorem interruptReturn_eq (s : State) :
    s.interruptReturn =
      (((stackRead4 s).2.setReg16 .sp (s.regs.sp + 6)).setFlags (Flags.ofWord (stackRead4 s).1)).jumpFar
        (stackRead2 s).1 (stackRead0 s).1 := by
  rw [State.interruptReturn, pop_pop_pop_eq_stackRead s, pop_pop_eq_stackRead s, pop_eq_stackRead s]

theorem ret_effect (s : State) (n : Word) :
    let t := s.ret n
    Jumped s t s.sregs.cs (stackRead0 s).1 ∧ OnlySp s t (s.regs.sp + 2 + n) ∧ MemSame s t := by
  rw [ret_eq]
  exact return_effect (readOnly_stackRead0 s) ..

theorem retFar_effect (s : State) (n : Word) :
    let t := s.retFar n
    Jumped s t (stackRead2 s).1 (stackRead0 s).1 ∧ OnlySp s t (s.regs.sp + 4 + n) ∧ MemSame s t := by
  rw [retFar_eq]
  exact return_effect (readOnly_stackRead2 s) ..

theorem interruptReturn_effect (s : State) :
    let t := s.interruptReturn
    SameFixed s t ∧ t.ip = (stackRead0 s).1 ∧ t.sregs = { s.sregs with cs := (stackRead2 s).1 } ∧ t.Flushed ∧
      t.eu = s.eu ∧ t.flags = Flags.ofWord (stackRead4 s).1 ∧ OnlySp s t (s.regs.sp + 6) ∧ MemSame s t := by
  rw [interruptReturn_eq]
  exact flagsReturn_effect (readOnly_stackRead4 s) ..

/-- Settles O38: a return without an immediate moves SP up by 0 more. -/
theorem returnsPopTarget : Obligations.ReturnsPopTarget := by
  refine fun s => ⟨⟨_, rfl, ?_⟩, fun imm => ⟨_, rfl, ret_effect s imm⟩, ⟨_, rfl, ?_⟩,
    fun imm => ⟨_, rfl, retFar_effect s imm⟩, _, rfl, interruptReturn_effect s⟩
  · exact BitVec.add_zero (s.regs.sp + 2) ▸ ret_effect s 0
  · exact BitVec.add_zero (s.regs.sp + 4) ▸ retFar_effect s 0

/-! ### Software interrupts (R835 to R837) -/

theorem exec_into (s : State) : exec .into s = .next (if s.flags.ofl then s.softInterrupt 4 else s) := rfl

/-- Settles O39: each is the entry of a software interrupt, INTO where OF is set. -/
theorem softwareInterrupts : Obligations.SoftwareInterrupts := by
  refine fun s h => ⟨?_, fun hof => ⟨s, ?_, rfl⟩⟩
  · rintro i n (rfl | ⟨rfl, rfl⟩ | ⟨rfl, rfl, hof⟩)
    · exact ⟨_, rfl, entered_softInterrupt h n⟩
    · exact ⟨_, rfl, entered_softInterrupt h 3⟩
    · exact ⟨s.softInterrupt 4, by rw [exec_into, if_pos hof], entered_softInterrupt h 4⟩
  · simp [exec_into, hof]

end Sys2Proof.Proofs
end

section
/-! The processor control instructions, and a core that is halted or waits (45_processor_control.md R900 to R909,
60_exceptions.md R1060). -/

namespace Sys2Proof.Proofs

open Sys2Proof Sys2Proof.Machine Sys2Proof.Laws

variable {s : State}

/-! ### Which interrupt a boundary takes (60_exceptions.md R1020, R1051) -/

theorem nmiLatch_beginStep (hn : s.eu.nmiLatch = false) (hin : s.nextInput.nmi = false) :
    s.beginStep.eu.nmiLatch = false := Bool.or_eq_false_iff.mpr ⟨hn, hin⟩

/-- With no NMI latched, no trap armed, and INTR not recognised or not asserted, no interrupt is taken. -/
theorem boundaryCheck_of_intrDue_none (hn : s.eu.nmiLatch = false) (ht : s.eu.trapArmed = false)
    (hi : s.intrDue = none) : s.boundaryCheck = (false, s.clearShadows) := by
  have he : s.entriesDue = [] := by simp [entriesDue_nil, State.nmiDue, State.trapDue, hn, ht, hi]
  simp [State.boundaryCheck, he]

/-- With no NMI latched and no trap armed, an INTR that is recognised is taken. -/
theorem boundaryCheck_of_intrDue_some {v : Byte} (hn : s.eu.nmiLatch = false) (ht : s.eu.trapArmed = false)
    (hi : s.intrDue = some v) : s.boundaryCheck = (true, s.clearShadows.takeIntr v) := by
  have he : s.entriesDue = [.intr v] := by
    simp [State.entriesDue, State.nmiDue, State.withTrap, State.trapDue, hn, ht, hi]
  simp [State.boundaryCheck, he, State.take]

/-- The entry of an INTR at a boundary between two instructions: its frame has the offset of the next instruction
(60_exceptions.md R1011). -/
theorem takeIntr_effect (h : s.MemOk) (hw : s.eu.waiting = false) (hrep : s.eu.rep = none) (v : Byte) :
    (s.takeIntr v).eu.halted = false ∧ (s.takeIntr v).flags = { s.flags with ifl := false, tf := false } ∧
      MemAfter s (s.takeIntr v) (frameStores s s.ip) ∧ OnlySp s (s.takeIntr v) (s.regs.sp - 6) ∧
        (s.takeIntr v).Flushed := by
  have hret : (s.intAck v).returnIp = s.ip := by simp [State.returnIp, hw, hrep]
  obtain ⟨⟨-, hsp, hmem, hfl, -, -, hflush⟩, -⟩ := entered_boundaryInterrupt (s := s.intAck v) h v
  rw [hret] at hmem
  obtain ⟨-, hh, -⟩ := settled_take s (.intr v)
  exact ⟨hh, hfl, hmem, hsp, hflush⟩

/-! ### A step that takes no interrupt, halted or waiting (R906, R907, 60_exceptions.md R1060) -/

/-- A step at whose boundary no interrupt is taken goes on with the shadows ended (30_encoding.md R315). -/
theorem step_not_taken {c : State} (hr : s.refused = false) (hin : s.nextInput.reset = false)
    (hd : s.eu.decoding = false) (hb : s.beginStep.boundaryCheck = (false, c)) :
    c = s.beginStep.clearShadows ∧ step s = c.proceed := by
  have hd' : s.beginStep.eu.decoding = false := hd
  refine ⟨by rw [← boundaryCheck_none (congrArg Prod.fst hb), hb], ?_⟩
  simp [step_of_not_refused hr, State.runStep, hin, hd', hb]

theorem proceed_halted (hh : s.eu.halted = true) : s.proceed = .next s := if_pos hh

theorem sampleTest_of_waiting (hw : s.eu.waiting = true) :
    s.sampleTest = { s with eu := { s.eu with waiting := !s.pins.test } } := by
  cases hp : s.pins.test
  · simp [State.sampleTest, hp, ← hw]
  · simp [State.sampleTest, hp]

theorem proceed_waiting (hh : s.eu.halted = false) (hw : s.eu.waiting = true) :
    s.proceed = .next { s.prefetch s.pins.prefetch with eu := { s.eu with waiting := !s.pins.test } } := by
  have hs := sampleTest_of_waiting (s := s.prefetch s.pins.prefetch) hw
  simp [State.proceed, hh, hw, hs]

/-- Settles O44: a step that takes an interrupt ends in its entry, and one that takes none leaves a halted core as it is and
has a waiting one prefetch and sample TEST. -/
theorem haltUntilInterrupt : Obligations.HaltUntilInterrupt := by
  refine ⟨fun s c taken hr hin hd hh hb => ?_, fun s hr hd hh hif ht hn hnmi hin => ?_,
    fun s v hinv hr hd _ hw hrep hif hall hintr ht hn hnmi hin hv => ?_, fun s c hinv hr hd hh hw hin hb => ?_⟩
  · cases taken with
    | true =>
      obtain ⟨-, hc, -⟩ := boundaryCheck_taken hb
      exact ⟨_, step_taken hr hin hd hb, hc, nofun⟩
    | false =>
      obtain ⟨rfl, hstep⟩ := step_not_taken hr hin hd hb
      refine ⟨_, hstep.trans (proceed_halted hh), hh, fun _ => ⟨rfl, rfl, rfl, rfl, rfl, rfl, rfl, rfl, ?_, _, rfl⟩⟩
      exact congrArg FetchState.settled
  · have hi : s.beginStep.intrDue = none := by simp [State.intrDue, hif]
    have hb := boundaryCheck_of_intrDue_none (nmiLatch_beginStep hn hnmi) ht hi
    obtain ⟨-, hstep⟩ := step_not_taken hr hin hd hb
    exact ⟨_, hstep.trans (proceed_halted hh), rfl, rfl, rfl, rfl, rfl, rfl, hh⟩
  · have hall' : s.beginStep.eu.inhibitAll = false := hall
    have hintr' : s.beginStep.eu.inhibitIntr = false := hintr
    have hi : s.beginStep.intrDue = some v := by simp [State.intrDue, hif, hall', hintr', hv]
    have hb := boundaryCheck_of_intrDue_some (nmiLatch_beginStep hn hnmi) ht hi
    obtain ⟨hm, -⟩ := hinv
    obtain ⟨hh, hfl, hmem, hsp, hflush⟩ := takeIntr_effect (s := s.beginStep.clearShadows) hm hw hrep v
    exact ⟨_, step_taken hr hin hd hb, hh, hfl, hmem, hsp, flushed_endStep hflush⟩
  · obtain ⟨rfl, hstep⟩ := step_not_taken hr hin hd hb
    have hs : Sound s.beginStep.clearShadows := (sound_beginStep hinv).setEu _
    exact ⟨_, hstep.trans (proceed_waiting hh hw), rfl, hw, rfl, rfl, rfl, rfl, rfl, rfl, rfl, rfl,
      (hs.prefetch _).stream.ipOk⟩

/-! ### The flag instructions (R900 to R905, R908) -/

theorem onlyFlags_setFlags (s : State) (f : Flags) : OnlyFlags s (s.setFlags f) f :=
  ⟨sameCore_setFlags s f, wroteNothing_of rfl rfl, rfl⟩

/-- Settles O45: all but STI are a write of FLAGS, and STI writes IF and its shadow by definition. -/
theorem flagInstructions : Obligations.FlagInstructions := fun s =>
  ⟨⟨_, rfl, onlyFlags_setFlags s _⟩, ⟨_, rfl, onlyFlags_setFlags s _⟩, ⟨_, rfl, onlyFlags_setFlags s _⟩,
    ⟨_, rfl, onlyFlags_setFlags s _⟩, ⟨_, rfl, onlyFlags_setFlags s _⟩, ⟨_, rfl, onlyFlags_setFlags s _⟩, _, rfl, rfl⟩

/-! ### HLT, WAIT and ESC (R906, R907, R909) -/

theorem waitTest_of_test (h : s.pins.test = true) : s.waitTest = s := if_pos h

theorem waitTest_of_not_test (h : s.pins.test = false) :
    s.waitTest = { s with eu := { s.eu with waiting := true, waitIp := s.ip - 1 } } := by
  simp only [State.waitTest, h, Bool.false_eq_true, if_false]

theorem exec_instrEsc {f : BitVec 3 → RM Reg16 → Instr} (h : f ∈ instrEsc) (x : BitVec 3) (m : RM Reg16) (s : State) :
    exec (f x m) s = .next (Machine.esc m s) := by
  simp only [instrEsc, List.mem_cons, List.not_mem_nil, or_false] at h
  rcases h with rfl | rfl | rfl | rfl | rfl | rfl | rfl | rfl <;> rfl

theorem esc_mem (a : EA) (s : State) :
    Machine.esc (.mem a) s = if s.cfg.escMemRead then (s.readB (s.eaSeg a) (s.ea a)).2 else s := rfl

theorem answer_bus (s : State) : s.answer.2.bus = s.bus := by
  unfold State.answer
  split <;> rfl

theorem memAnswer_bus (s : State) (a : LinAddr) : (s.memAnswer a).2.bus = s.bus := by
  unfold State.memAnswer
  split
  · rfl
  · exact answer_bus s
  · rfl

/-- A read of a byte is one MemRead transaction (20_memory.md R205). -/
theorem readB_bus (s : State) (seg off : Word) :
    ∃ op, (s.readB seg off).2.bus = s.bus ++ [op] ∧ op.kind = .memRead ∧ op.addr = lin seg off := by
  rw [← memAnswer_bus s (lin seg off)]
  exact ⟨_, rfl, rfl, rfl⟩

/-- Settles O46: HLT by definition, WAIT by what it samples, and each ESC is `esc`, at most a read of a byte. -/
theorem haltWaitEscape : Obligations.HaltWaitEscape := by
  refine fun s => ⟨⟨_, rfl, _, _, rfl⟩, fun ht => ⟨_, rfl, waitTest_of_test ht⟩,
    fun ht => ⟨_, rfl, waitTest_of_not_test ht⟩, fun f hf x =>
      ⟨fun r => ⟨_, exec_instrEsc hf .., rfl⟩, fun a => ⟨fun hc => ⟨_, exec_instrEsc hf .., ?_⟩,
        fun hc => ⟨_, exec_instrEsc hf .., ?_⟩⟩⟩⟩
  · rw [esc_mem, hc, if_neg Bool.false_ne_true]
  · have ro := readOnly_readB s (s.eaSeg a) (s.ea a)
    rw [esc_mem, if_pos hc]
    exact ⟨ro.sameCore, wroteNothing_of ro.regs ro.mem, ro.flags, readB_bus ..⟩

end Sys2Proof.Proofs
end

section
/-! Interrupts: which of them a boundary takes, what its entries do, where an entry goes, and how IRET undoes it
(60_exceptions.md R1000 to R1070). -/

namespace Sys2Proof.Proofs

open Sys2Proof Sys2Proof.Machine Sys2Proof.Laws

variable {s t u : State} {n : Byte} {ret : Word}

/-! ### What a boundary takes (R1020, R1030, R1040, R1050, R1051) -/

theorem nmiDue_iff : s.nmiDue = true ↔ s.eu.nmiLatch = true ∧ s.eu.inhibitAll = false := by
  simp [State.nmiDue]

theorem intrDue_eq_some_iff {v : Byte} : s.intrDue = some v ↔
    (s.flags.ifl = true ∧ s.eu.inhibitAll = false ∧ s.eu.inhibitIntr = false) ∧ s.pins.intr = some v := by
  simp [State.intrDue, and_assoc]

theorem intrDue_isSome_iff : s.intrDue.isSome = true ↔
    (s.flags.ifl = true ∧ s.eu.inhibitAll = false ∧ s.eu.inhibitIntr = false) ∧ s.pins.intr.isSome = true := by
  simp only [Option.isSome_iff_exists, intrDue_eq_some_iff, exists_and_left]

theorem trapDeferred_eq_decide (s : State) :
    s.trapDeferred = decide (s.eu.rep.isSome = true ∧ s.cfg.trapPerRepIteration = false) := by
  simp [State.trapDeferred]

theorem trapDue_iff : s.trapDue = true ↔ s.eu.trapArmed = true ∧
    (s.eu.inhibitAll = false ∨ s.cfg.trapAfterSregLoad = true) ∧
      ¬(s.eu.rep.isSome = true ∧ s.cfg.trapPerRepIteration = false) := by
  simp only [State.trapDue, trapDeferred_eq_decide, Bool.and_eq_true, Bool.or_eq_true, Bool.not_eq_true',
    decide_eq_false_iff_not, and_assoc]

/-- The external interrupt recognised at a boundary, NMI before INTR (R1051). -/
def externalDue (s : State) : Option Entry := if s.nmiDue then some .nmi else s.intrDue.map .intr

theorem externalDue_nmi (h : s.nmiDue = true) : externalDue s = some .nmi := if_pos h

theorem externalDue_intr {v : Byte} (hn : ¬s.nmiDue = true) (hi : s.intrDue = some v) :
    externalDue s = some (.intr v) := by
  rw [externalDue, if_neg hn, hi]
  rfl

theorem externalDue_none (hn : ¬s.nmiDue = true) (hi : s.intrDue = none) : externalDue s = none := by
  rw [externalDue, if_neg hn, hi]
  rfl

theorem entriesDue_external {e : Entry} (h : externalDue s = some e) : s.entriesDue = s.withTrap e := by
  unfold externalDue at h
  unfold State.entriesDue
  split at h
  · rw [if_pos ‹_›, Option.some.inj h]
  · obtain ⟨v, hv, rfl⟩ := Option.map_eq_some_iff.mp h
    rw [if_neg ‹_›, hv]

theorem entriesDue_no_external (h : externalDue s = none) : s.entriesDue = if s.trapDue then [.trap] else [] := by
  unfold externalDue at h
  unfold State.entriesDue
  split at h
  · exact absurd h nofun
  · rw [if_neg ‹_›, Option.map_eq_none_iff.mp h]

/-- The boundary check by the list of its entries. -/
theorem boundaryCheck_of_entriesDue {l : List Entry} (h : s.entriesDue = l) :
    s.boundaryCheck = (!l.isEmpty, l.foldl State.take s.clearShadows) := h ▸ rfl

theorem boundaryCheck_external {e : Entry} (he : externalDue s = some e)
    (ht : s.trapDue = true → s.cfg.trapWithInterrupt = .lost) :
    s.boundaryCheck = (true, s.clearShadows.take e) := by
  refine boundaryCheck_of_entriesDue (l := [e]) ((entriesDue_external he).trans ?_)
  unfold State.withTrap
  split
  · rw [ht ‹_›]
  · rfl

theorem boundaryCheck_trapFirst {e : Entry} (he : externalDue s = some e) (ht : s.trapDue = true)
    (hc : s.cfg.trapWithInterrupt = .trapFirst) : s.boundaryCheck = (true, s.clearShadows.takeTrap) :=
  boundaryCheck_of_entriesDue (l := [.trap]) (by rw [entriesDue_external he, State.withTrap, if_pos ht, hc])

theorem boundaryCheck_trapAfterEntry {e : Entry} (he : externalDue s = some e) (ht : s.trapDue = true)
    (hc : s.cfg.trapWithInterrupt = .trapAfterEntry) :
    s.boundaryCheck = (true, (s.clearShadows.take e).takeTrap) :=
  boundaryCheck_of_entriesDue (l := [e, .trap]) (by rw [entriesDue_external he, State.withTrap, if_pos ht, hc])

theorem boundaryCheck_trap (he : externalDue s = none) (ht : s.trapDue = true) :
    s.boundaryCheck = (true, s.clearShadows.takeTrap) :=
  boundaryCheck_of_entriesDue (l := [.trap]) (by rw [entriesDue_no_external he, if_pos ht])

theorem boundaryCheck_nothing (he : externalDue s = none) (ht : ¬s.trapDue = true) :
    s.boundaryCheck = (false, s.clearShadows) :=
  boundaryCheck_of_entriesDue (l := []) (by rw [entriesDue_no_external he, if_neg ht])

theorem takeTrap_nmiLatch (s : State) : s.takeTrap.eu.nmiLatch = s.eu.nmiLatch := by
  simp [State.takeTrap, State.boundaryInterrupt, eu_enterInterrupt]

theorem externalDue_isSome (h : s.nmiDue = true ∨ s.intrDue.isSome = true) : ∃ e, externalDue s = some e := by
  by_cases hn : s.nmiDue = true
  · exact ⟨_, externalDue_nmi hn⟩
  · obtain ⟨v, hv⟩ := Option.isSome_iff_exists.mp (h.resolve_left hn)
    exact ⟨_, externalDue_intr hn hv⟩

/-- Settles O42: the external interrupt due, the trap due and TRAP_WITH_INTERRUPT fix the list of entries. -/
theorem boundaryPriority : Obligations.BoundaryPriority := by
  intro s nmi intr held trap c
  have hc : s.clearShadows = c := by rw [State.clearShadows, trapDeferred_eq_decide]
  have hnmi : s.nmiDue = true ↔ nmi := nmiDue_iff
  have hintr : ∀ v, s.intrDue = some v ↔ intr ∧ s.pins.intr = some v := fun _ => intrDue_eq_some_iff
  have hsome : s.intrDue.isSome = true ↔ intr ∧ s.pins.intr.isSome = true := intrDue_isSome_iff
  have htrap : s.trapDue = true ↔ trap := trapDue_iff
  have hfirst : ¬nmi → intr → ∀ v, s.pins.intr = some v → externalDue s = some (.intr v) := fun hn hi v hv =>
    externalDue_intr (mt hnmi.mp hn) ((hintr v).mpr ⟨hi, hv⟩)
  have hnone : ¬nmi → ¬(intr ∧ s.pins.intr.isSome = true) → externalDue s = none := fun hn hi =>
    externalDue_none (mt hnmi.mp hn) (by simpa using mt hsome.mp hi)
  rw [← hc]
  refine ⟨fun hn ht => ?_, fun hn hi ht v hv => ?_, fun hn hi ht => ?_, fun hn hi ht => ?_,
    fun _ hl => ⟨fun hn => ?_, fun hn hi v hv => ?_⟩, fun ht hf he => ⟨?_, takeTrap_nmiLatch _⟩,
    fun ht ha => ⟨fun hn => ?_, fun hn hi v hv => ?_⟩⟩
  · exact boundaryCheck_external (externalDue_nmi (hnmi.mpr hn)) fun h => absurd (htrap.mp h) ht
  · exact boundaryCheck_external (hfirst hn hi v hv) fun h => absurd (htrap.mp h) ht
  · exact boundaryCheck_trap (hnone hn hi) (htrap.mpr ht)
  · exact boundaryCheck_nothing (hnone hn hi) (mt htrap.mp ht)
  · exact boundaryCheck_external (externalDue_nmi (hnmi.mpr hn)) fun _ => hl
  · exact boundaryCheck_external (hfirst hn hi v hv) fun _ => hl
  · obtain ⟨e, he⟩ := externalDue_isSome (he.imp hnmi.mpr hsome.mpr)
    exact boundaryCheck_trapFirst he (htrap.mpr ht) hf
  · exact boundaryCheck_trapAfterEntry (externalDue_nmi (hnmi.mpr hn)) (htrap.mpr ht) ha
  · exact boundaryCheck_trapAfterEntry (hfirst hn hi v hv) (htrap.mpr ht) ha

/-! ### The LOCK of an entry's transactions (20_memory.md R245) -/

/-- From `s` to `t` LOCK stays as it is, and every transaction made is recorded with it. -/
structure RecordsLock (s t : State) : Prop where
  lock : t.eu.lockActive = s.eu.lockActive
  bus : ∃ l, t.bus = s.bus ++ l ∧ ∀ o ∈ l, o.lock = s.eu.lockActive

theorem RecordsLock.of_same (hb : t.bus = s.bus) (hl : t.eu.lockActive = s.eu.lockActive) : RecordsLock s t :=
  ⟨hl, [], by simp [hb], by simp⟩

theorem RecordsLock.trans (h : RecordsLock s t) (k : RecordsLock t u) : RecordsLock s u := by
  obtain ⟨hl, l, hb, ho⟩ := h
  obtain ⟨kl, m, kb, ko⟩ := k
  refine ⟨kl.trans hl, l ++ m, by rw [kb, hb, List.append_assoc], fun o hm => ?_⟩
  exact (List.mem_append.mp hm).elim (ho o) fun h => (ko o h).trans hl

theorem recordsLock_record (s : State) (k : BusStatus) (a : LinAddr) (v : Byte) (f : Bool) :
    RecordsLock s (s.record k a v f) := ⟨rfl, _, rfl, by simp⟩

theorem recordsLock_memRead (s : State) (a : LinAddr) (f : Bool) : RecordsLock s (s.memRead a f).2 :=
  (RecordsLock.of_same (memAnswer_bus s a) (by rw [(readOnly_memAnswer s a).eu])).trans (recordsLock_record ..)

theorem recordsLock_readW (s : State) (seg off : Word) : RecordsLock s (s.readW seg off).2 :=
  (recordsLock_memRead s ..).trans (recordsLock_memRead ..)

theorem recordsLock_readVector (s : State) (n : Byte) : RecordsLock s (s.readVector n).2 :=
  (recordsLock_readW s ..).trans (recordsLock_readW ..)

theorem recordsLock_memWrite (s : State) (a : LinAddr) (v : Byte) (f : Bool) : RecordsLock s (s.memWrite a v f) :=
  ⟨rfl, _, rfl, by simp⟩

theorem recordsLock_writeW (s : State) (seg off v : Word) : RecordsLock s (s.writeW seg off v) :=
  (recordsLock_memWrite s ..).trans (recordsLock_memWrite ..)

theorem recordsLock_push (s : State) (v : Word) : RecordsLock s (s.push v) := by
  have h : RecordsLock s (s.setReg16 .sp (s.regs.sp - 2)) := .of_same rfl rfl
  exact h.trans (recordsLock_writeW ..)

theorem recordsLock_pushFrame (s : State) (ret : Word) : RecordsLock s (s.pushFrame ret) := by
  rw [pushFrame_eq]
  have h : RecordsLock s (pushedFlags s) := (recordsLock_push s s.flags.toWord).trans (.of_same rfl rfl)
  exact (h.trans (recordsLock_push ..)).trans (recordsLock_push ..)

theorem recordsLock_enterInterrupt (s : State) (n : Byte) (ret : Word) : RecordsLock s (s.enterInterrupt n ret) := by
  cases hv : s.cfg.intVectorOrder with
  | afterPushes =>
    simp only [State.enterInterrupt, hv]
    exact ((recordsLock_pushFrame s ret).trans (recordsLock_readVector _ n)).trans (.of_same rfl rfl)
  | beforePushes =>
    simp only [State.enterInterrupt, hv]
    exact ((recordsLock_readVector s n).trans (recordsLock_pushFrame _ ret)).trans (.of_same rfl rfl)

/-! ### The entries of a boundary (R1010, R1011) -/

/-- No transaction of an entry at a boundary asserts LOCK (log 13). -/
theorem lock_boundaryInterrupt (s : State) (n : Byte) :
    ∀ o ∈ (s.boundaryInterrupt n).bus.drop s.bus.length, o.lock = false := by
  obtain ⟨-, l, hb, ho⟩ := recordsLock_enterInterrupt s.releaseLock n s.returnIp
  have hb' : (s.boundaryInterrupt n).bus = s.bus ++ l := hb
  rw [hb', List.drop_left]
  exact ho

/-- The latches that an entry leaves do not tell whether LOCK was released before it. -/
theorem entryLatches_releaseLock {trap lock : Bool} :
    EntryLatches s.releaseLock t trap lock ↔ EntryLatches s t trap lock := Iff.rfl

/-- Settles O43: each entry is that of `boundaryInterrupt`, from the state with its latch cleared or its acknowledge
cycles made. -/
theorem boundaryEntries : Obligations.BoundaryEntries := by
  refine fun s h => ⟨?_, ?_, fun v => ⟨Config.freeIntAckAddr s.draws, Config.freeIntAckAddr (s.draws + 2),
    Config.freeAnswer (s.draws + 1), ?_⟩⟩
  · let u : State := { s with eu := { s.eu with nmiLatch := false } }
    obtain ⟨entered, latches⟩ := entered_boundaryInterrupt (s := u) h 2
    exact ⟨entered, entryLatches_releaseLock.mpr latches, lock_boundaryInterrupt u 2⟩
  · obtain ⟨entered, latches⟩ := entered_boundaryInterrupt h 1
    exact ⟨entered, latches, lock_boundaryInterrupt s 1⟩
  · obtain ⟨entered, latches⟩ := entered_boundaryInterrupt (s := s.intAck v) h v
    exact ⟨entered, entryLatches_releaseLock.mpr latches, lock_boundaryInterrupt (s.intAck v) v⟩

/-! ### The frame on the stack (R1010) -/

/-- The address of a byte of an entry's frame, upward from the return offset. -/
def frameByte (s : State) (i : Nat) : LinAddr := lin s.sregs.ss (s.regs.sp - 6 + BitVec.ofNat 16 i)

theorem frameByte_inj {i j : Nat} (hi : i < 6) (hj : j < 6) : frameByte s i = frameByte s j ↔ i = j := by
  refine ⟨fun h => ?_, fun h => h ▸ rfl⟩
  have e := BitVec.add_right_inj _ |>.mp (lin_inj h)
  simpa [BitVec.toNat_ofNat, Nat.mod_eq_of_lt (show i < 65536 by omega),
    Nat.mod_eq_of_lt (show j < 65536 by omega)] using congrArg BitVec.toNat e

/-- The stores of an entry, by their places in the frame. -/
theorem frameStores_eq (s : State) (ret : Word) : frameStores s ret =
    [(frameByte s 4, loByte s.flags.toWord), (frameByte s 5, hiByte s.flags.toWord),
      (frameByte s 2, loByte s.sregs.cs), (frameByte s 3, hiByte s.sregs.cs),
      (frameByte s 0, loByte ret), (frameByte s 1, hiByte ret)] := by
  have e0 : s.regs.sp - 6 = s.regs.sp - 6 + BitVec.ofNat 16 0 := by bv_omega
  have e1 : s.regs.sp - 6 + 1 = s.regs.sp - 6 + BitVec.ofNat 16 1 := rfl
  have e2 : s.regs.sp - 4 = s.regs.sp - 6 + BitVec.ofNat 16 2 := by bv_omega
  have e3 : s.regs.sp - 4 + 1 = s.regs.sp - 6 + BitVec.ofNat 16 3 := by bv_omega
  have e4 : s.regs.sp - 2 = s.regs.sp - 6 + BitVec.ofNat 16 4 := by bv_omega
  have e5 : s.regs.sp - 2 + 1 = s.regs.sp - 6 + BitVec.ofNat 16 5 := by bv_omega
  simp only [frameStores, wordStores, frameByte, ← e0, ← e1, ← e2, ← e3, ← e4, ← e5, List.cons_append, List.nil_append]

theorem mem_frameStores {x : LinAddr × Byte} (h : x ∈ frameStores s ret) : ∃ i < 6, x.1 = frameByte s i := by
  simp only [frameStores_eq, List.mem_cons, List.not_mem_nil, or_false] at h
  obtain rfl | rfl | rfl | rfl | rfl | rfl := h
  exacts [⟨4, by decide, rfl⟩, ⟨5, by decide, rfl⟩, ⟨2, by decide, rfl⟩, ⟨3, by decide, rfl⟩, ⟨0, by decide, rfl⟩,
    ⟨1, by decide, rfl⟩]

/-! ### The vector (R1001, R1010) -/

/-- Stores elsewhere leave a byte alone. -/
theorem byteAfter_of_notMem {l : List (LinAddr × Byte)} {a : LinAddr} (h : ∀ x ∈ l, x.1 ≠ a) :
    s.byteAfter l a = s.mem.read a := by
  unfold State.byteAfter
  induction l with
  | nil => rfl
  | cons x l ih =>
    obtain ⟨hx, hl⟩ := List.forall_mem_cons.mp h
    rw [List.foldl_cons, if_neg fun k => hx k.1, ih hl]

/-- The address of a byte of entry n of the table, as a read of the vector forms it. -/
def vectorByte (n : Byte) (j : Nat) : LinAddr := lin 0 ((zext16 n <<< 2) + BitVec.ofNat 16 j)

/-- Entry n is at 4n (R1001). -/
theorem vectorByte_eq (n : Byte) {j : Nat} (hj : j < 4) : vectorByte n j = BitVec.ofNat 20 (4 * n.toNat + j) := by
  have hn := n.isLt
  have h0 : (0 : Word).toNat = 0 := rfl
  apply BitVec.eq_of_toNat_eq
  simp only [vectorByte, lin, zext16, BitVec.toNat_add, BitVec.toNat_shiftLeft, BitVec.toNat_setWidth,
    BitVec.toNat_ofNat, Nat.shiftLeft_eq, h0]
  omega

/-- Entry n of the table in memory: the segment, then the offset. -/
def tableEntry (m : Memory) (n : Byte) : Word × Word :=
  let at' : Nat → Byte := fun j => m.read (BitVec.ofNat 20 (4 * n.toNat + j))
  (wordOf (at' 2) (at' 3), wordOf (at' 0) (at' 1))

theorem tableEntry_congr {m m' : Memory} (h : ∀ j < 4, m.read (vectorByte n j) = m'.read (vectorByte n j)) :
    tableEntry m n = tableEntry m' n := by
  have h' : ∀ j < 4, m.read (BitVec.ofNat 20 (4 * n.toNat + j)) = m'.read (BitVec.ofNat 20 (4 * n.toNat + j)) :=
    fun j hj => by simpa only [vectorByte_eq n hj] using h j hj
  simp only [tableEntry, h', Nat.reduceLT]

theorem readVector_ram (h : ∀ j < 4, s.IsRam (vectorByte n j)) : (s.readVector n).1 = tableEntry s.mem n := by
  have e0 : vectorByte n 0 = lin 0 (zext16 n <<< 2) := congrArg (lin 0) (BitVec.add_zero _)
  have e1 : vectorByte n 1 = lin 0 ((zext16 n <<< 2) + 1) := rfl
  have e2 : vectorByte n 2 = lin 0 ((zext16 n <<< 2) + 2) := rfl
  have e3 : vectorByte n 3 = lin 0 ((zext16 n <<< 2) + 2 + 1) := congrArg (lin 0) (BitVec.add_assoc _ 2 1).symm
  have ro := readOnly_readW s 0 (zext16 n <<< 2)
  have ram : ∀ j < 4, (s.readW 0 (zext16 n <<< 2)).2.IsRam (vectorByte n j) := fun j hj =>
    (ro.kindAt _).trans (h j hj)
  have hip := readW_ram (e0 ▸ h 0 (by decide)) (e1 ▸ h 1 (by decide))
  have hcs := readW_ram (e2 ▸ ram 2 (by decide)) (e3 ▸ ram 3 (by decide))
  rw [ro.mem, ← e2, ← e3] at hcs
  rw [← e0, ← e1] at hip
  rw [State.readVector, hip, hcs]
  simp [tableEntry, vectorByte_eq]

/-- The pushes of an entry miss its vector, so reading it before or after them gives the same. -/
theorem vectorRead_eq_tableEntry (h : s.MemOk) (hmiss : StackMissesVector s n)
    (hram : ∀ j < 4, s.IsRam (vectorByte n j)) (ret : Word) : vectorRead s n ret = tableEntry s.mem n := by
  cases hv : s.cfg.intVectorOrder with
  | beforePushes => simpa only [vectorRead, hv] using readVector_ram hram
  | afterPushes =>
    obtain ⟨-, hmem⟩ := memAfter_pushFrame h ret
    have hsame : ∀ j < 4, (s.pushFrame ret).mem.read (vectorByte n j) = s.mem.read (vectorByte n j) := fun j hj => by
      refine (hmem _).trans (byteAfter_of_notMem fun x hx => ?_)
      obtain ⟨i, hi, e⟩ := mem_frameStores hx
      exact e ▸ hmiss i hi j hj
    have hram' : ∀ j < 4, (s.pushFrame ret).IsRam (vectorByte n j) := fun j hj => by
      rw [State.IsRam, pushFrame_plat]
      exact hram j hj
    simp only [vectorRead, hv]
    rw [readVector_ram hram', tableEntry_congr hsame]

/-- Settles O40: the vector read is the entry of the table, and INT n goes to the vector read. -/
theorem entryFollowsVector : Obligations.EntryFollowsVector := by
  intro s n h hmiss hram
  have hv := vectorRead_eq_tableEntry h hmiss hram
  obtain ⟨⟨-, -, -, hflags, hsregs, hip, -⟩, -⟩ := entered_softInterrupt h n
  rw [hv] at hsregs hip
  exact ⟨hv, _, rfl, hip, by rw [hsregs]; rfl, by rw [hsregs], by rw [hflags], by rw [hflags]⟩

/-! ### IRET after an entry (R1070, 44_control_transfer.md R838) -/

/-- A word of the frame, as memory holds it. -/
def frameWord (s : State) (m : Memory) (i : Nat) : Word :=
  wordOf (m.read (frameByte s i)) (m.read (frameByte s (i + 1)))

/-- The frame in memory reads back as the return offset, CS and FLAGS. -/
theorem frame_words (hmem : MemAfter s t (frameStores s ret)) (hram : ∀ i < 6, s.IsRam (frameByte s i)) :
    frameWord s t.mem 0 = ret ∧ frameWord s t.mem 2 = s.sregs.cs ∧ frameWord s t.mem 4 = s.flags.toWord := by
  have hram' : ∀ i < 6, s.plat.kindAt (frameByte s i) = none := hram
  simp [frameWord, hmem _, frameStores_eq, State.byteAfter, frameByte_inj, hram', wordOf_lo_hi]

/-- A read of a word of the frame, in a state with the memory and the map of `s` after the entry. -/
theorem readW_frame (ro : ReadOnly t u) (hp : t.plat.regions = s.plat.regions)
    (hram : ∀ i < 6, s.IsRam (frameByte s i)) {i : Nat} (hi : i < 5) :
    (u.readW s.sregs.ss (s.regs.sp - 6 + BitVec.ofNat 16 i)).1 = frameWord s t.mem i := by
  have ram : ∀ j < 6, u.IsRam (frameByte s j) := fun j hj => by
    simpa only [State.IsRam, Platform.kindAt, ro.regions, hp] using hram j hj
  have e : frameByte s (i + 1) = lin s.sregs.ss (s.regs.sp - 6 + BitVec.ofNat 16 i + 1) :=
    congrArg (lin s.sregs.ss) (by rw [BitVec.ofNat_add, ← BitVec.add_assoc]; rfl)
  rw [readW_ram (ram i (by omega)) (e ▸ ram (i + 1) (by omega)), ro.mem, ← e]
  rfl

/-- The three words at the top of the stack after an entry. -/
theorem stackReads_entered (hs : t.sregs.ss = s.sregs.ss) (hsp : t.regs.sp = s.regs.sp - 6)
    (hp : t.plat.regions = s.plat.regions) (hmem : MemAfter s t (frameStores s ret))
    (hram : ∀ i < 6, s.IsRam (frameByte s i)) :
    (stackRead0 t).1 = ret ∧ (stackRead2 t).1 = s.sregs.cs ∧ (stackRead4 t).1 = s.flags.toWord := by
  obtain ⟨h0, h2, h4⟩ := frame_words hmem hram
  have r0 := readW_frame (.refl t) hp hram (i := 0) (by decide)
  have r2 := readW_frame (readOnly_stackRead0 t) hp hram (i := 2) (by decide)
  have r4 := readW_frame (readOnly_stackRead2 t) hp hram (i := 4) (by decide)
  rw [← hsp, ← hs] at r0 r2 r4
  rw [show t.regs.sp + BitVec.ofNat 16 0 = t.regs.sp from BitVec.add_zero _] at r0
  exact ⟨r0.trans h0, r2.trans h2, r4.trans h4⟩

theorem regs_eq_of_get {r r' : Regs} (h : ∀ q, r.get q = r'.get q) : r = r' := by
  cases r
  cases r'
  rw [Regs.mk.injEq]
  exact ⟨h .ax, h .bx, h .cx, h .dx, h .sp, h .bp, h .si, h .di⟩

/-- SP goes down and up again by the same. -/
theorem regsSame_of_onlySp {v : Word} (h : OnlySp s t v) (k : OnlySp t u s.regs.sp) : RegsSame s u := fun q => by
  by_cases hq : q = .sp
  · subst hq
    exact k.1
  · exact (k.2 q hq).trans (h.2 q hq)

/-- Settles O41: IRET pops the frame that the entry has pushed. -/
theorem iretUndoesEntry : Obligations.IretUndoesEntry := by
  intro s t n h hram ht
  obtain rfl : s.softInterrupt n = t := Host.Outcome.next.inj ht
  obtain ⟨⟨⟨-, -, -, -, hp, -⟩, sp, hmem, -, hsregs, -⟩, -⟩ := entered_softInterrupt h n
  have hsp : (s.softInterrupt n).regs.sp = s.regs.sp - 6 := sp.1
  obtain ⟨h0, h2, h4⟩ := stackReads_entered (by rw [hsregs]) hsp hp hmem hram
  obtain ⟨-, hip, hsregs', hflush, -, hflags, sp', -⟩ := interruptReturn_effect (s.softInterrupt n)
  rw [hsp, BitVec.sub_add_cancel] at sp'
  refine ⟨_, rfl, hip.trans h0, ?_, ?_, regs_eq_of_get (regsSame_of_onlySp sp sp'), hflush⟩
  · rw [hsregs', hsregs, h2]
  · rw [hflags, h4, ofWord_toWord]

end Sys2Proof.Proofs
end
